-- ==== Sys2Proof/Word.lean ====
section
/-! DEFINITION. The two word sizes of the machine (00_scope.md R4, R5). -/

namespace Sys2Proof

/-- 8 bits (R5): registers A, X, Y, Z, B, a memory byte, an instruction byte. -/
abbrev Byte := BitVec 8

/-- 16 bits (R4, R5): S, PC, an address, a word operand. -/
abbrev Word := BitVec 16

end Sys2Proof
end

