-- ==== Sys2Proof/Config.lean ====
section
/-! DEFINITION. What the environment or an implementation fixes (00_scope.md R4) and the values the
spec leaves open. A parameter that the spec lets a model take as an argument is a field of `Params`,
which State carries unchanged: a statement about every state holds for every value of it. An
`any value` of 93_implementation_defined.md is a constant WITHOUT A BODY applied to State's draw
counter: nothing can be proved of its value. -/

namespace Sys2Proof

/-- What stands behind an address (20_memory.md R43). -/
inductive Kind where
  /-- Reads return the last value written. -/
  | ram
  /-- Reads return the launch content; a store is dropped. -/
  | rom
  /-- Effects the model does not know: an access is refused (U7). -/
  | device
  /-- A read returns any value; a store is dropped; a fetch is refused (U10). -/
  | unmapped
deriving DecidableEq, Repr

/-- `size` consecutive addresses from `base`, all of one kind (R43). -/
structure Region where
  base : Nat
  size : Nat
  kind : Kind
deriving DecidableEq, Repr

/-- `RTN_ORDER` (R4, R134). -/
inductive RtnOrder where
  | adjustThenPull
  | pullThenAdjust
deriving DecidableEq, Repr, Inhabited

/-- `PHW_ORDER` (R4, R205). -/
inductive PhwOrder where
  | highFirst
  | lowFirst
deriving DecidableEq, Repr

/-- `WORD_RMW_ORDER` (R4, R52). -/
inductive WordRmwOrder where
  | loHi
  | hiLo
deriving DecidableEq, Repr

/-- The named parameters of R4. `rtnOrder = none` leaves RTN_ORDER open, as D9 has it: then the opaque
`Config.openRtnOrder` decides. `regions` is `MEM`: the first region that holds an address gives its
kind, and an address in no region is ram. -/
structure Params where
  vecNmi : Word
  vecReset : Word
  vecIrq : Word
  phwOrder : PhwOrder
  wordRmwOrder : WordRmwOrder
  rtnOrder : Option RtnOrder
  regions : List Region
deriving DecidableEq, Repr

/-- The defaults R4 gives (vectors, PHW_ORDER, WORD_RMW_ORDER), RTN_ORDER left open.
DESIGN CHOICE (log entry 5), unsafe: MEM, for which R4 gives no default, is ram everywhere. -/
def Params.default : Params where
  vecNmi := 0xFFFA#16
  vecReset := 0xFFFC#16
  vecIrq := 0xFFFE#16
  phwOrder := .highFirst
  wordRmwOrder := .loHi
  rtnOrder := none
  regions := []

/-- RTN_ORDER of the real part, which no document gives (R134, D9). Free. -/
opaque Config.openRtnOrder : RtnOrder

/-- What a read of an unmapped address returns (R43, U10: `any value` per access). The arguments are
the draw counter and the position of the access among those of its instruction. Free. -/
opaque Config.unmappedByte : Nat → Nat → Byte

/-- P.N after a decimal ADC or SBC (R168, U1, U2). The argument is the draw counter. Free. -/
opaque Config.decimalN : Nat → Bool

/-- P.V after a decimal ADC or SBC (R168, U1, U2). Free. -/
opaque Config.decimalV : Nat → Bool

/-- P.Z after a decimal ADC or SBC (R168, U1, U2). Free. -/
opaque Config.decimalZ : Nat → Bool

/-- P.C after a decimal ADC or SBC whose operands are not both valid BCD (R168, U2). Free. -/
opaque Config.invalidBcdC : Nat → Bool

/-- A after a decimal ADC or SBC whose operands are not both valid BCD (R168, U2). Free. -/
opaque Config.invalidBcdA : Nat → Byte

/-- A after a RESET event (R34, U9: `any value` drawn at reset). Free. -/
opaque Config.resetA : Nat → Byte

/-- X after a RESET event (R34, U9). Free. -/
opaque Config.resetX : Nat → Byte

/-- Y after a RESET event (R34, U9). Free. -/
opaque Config.resetY : Nat → Byte

/-- S.L after a RESET event (R34, U9). Free. -/
opaque Config.resetSL : Nat → Byte

/-- P.N after a RESET event (R34, U9). Free. -/
opaque Config.resetN : Nat → Bool

/-- P.V after a RESET event (R34, U9). Free. -/
opaque Config.resetV : Nat → Bool

/-- P.Z after a RESET event (R34, U9). Free. -/
opaque Config.resetZ : Nat → Bool

/-- P.C after a RESET event (R34, U9). Free. -/
opaque Config.resetC : Nat → Bool

end Sys2Proof
end

