-- ==== Sys2Proof/Machine/Bytes.lean ====
section
/-! DEFINITION. Bytes of words, words of bytes, and the two extensions of 00_scope.md R5. -/

namespace Sys2Proof.Machine

/-- `hi : lo`, `hi` the more significant byte (R5). -/
def mkWord (hi lo : Byte) : Word := hi ++ lo

/-- `w[15:8]`; of S it is S.H (R5, R15). -/
def hiByte (w : Word) : Byte := w.extractLsb' 8 8

/-- `w[7:0]`; of S it is S.L (R5, R15). -/
def loByte (w : Word) : Byte := w.extractLsb' 0 8

/-- `zext_16` (R5). -/
def zext16 (v : Byte) : Word := v.setWidth 16

/-- `sext_16` (R5). -/
def sext16 (v : Byte) : Word := v.signExtend 16

end Sys2Proof.Machine
end

