-- ==== Sys2Proof/Machine/Memory.lean ====
section
/-! DEFINITION. The 65,536 bytes of the one address space (20_memory.md R40) as a sparse list of
(address, byte) pairs, and the platform's memory map (R43). A key is the address as a number. -/

namespace Sys2Proof.Machine

/-- Memory contents: the listed bytes; every other address holds `Memory.unlisted`. -/
abbrev Memory := List Host.Cell

/-- What an address that is not listed reads as.
DESIGN CHOICE (log entry 4), unsafe: the launch contents of memory belong to the platform (R33, D2). -/
def Memory.unlisted : Byte := 0x00#8

/-- The byte at an address. -/
def Memory.read (m : Memory) (a : Nat) : Byte :=
  match m with
  | [] => Memory.unlisted
  | (k, v) :: rest => if k = a then v else Memory.read rest a

/-- The memory without an entry for `a`. -/
def Memory.erase (m : Memory) (a : Nat) : Memory :=
  match m with
  | [] => []
  | (k, v) :: rest => if k = a then Memory.erase rest a else (k, v) :: Memory.erase rest a

/-- The memory with an entry put before the first larger address. -/
def Memory.insert (m : Memory) (a : Nat) (v : Byte) : Memory :=
  match m with
  | [] => [(a, v)]
  | (k, w) :: rest => if a < k then (a, v) :: (k, w) :: rest else (k, w) :: Memory.insert rest a v

/-- The memory after byte `v` is stored at `a`. A byte equal to `Memory.unlisted` is not listed, so that
memories that read the same are the same list (`Memory.wf`). -/
def Memory.write (m : Memory) (a : Nat) (v : Byte) : Memory :=
  if v = Memory.unlisted then Memory.erase m a else Memory.insert (Memory.erase m a) a v

/-- Every listed address is at least `lo` and the addresses rise strictly from there; no entry equals what
an unlisted address reads as; every address lies in the address space. -/
def Memory.wfFrom (lo : Nat) (m : Memory) : Bool :=
  match m with
  | [] => true
  | (k, v) :: rest => decide (lo ≤ k) && decide (k < 65536) && decide (v ≠ Memory.unlisted)
      && Memory.wfFrom (k + 1) rest

/-- The canonical form of a memory. -/
def Memory.wf (m : Memory) : Bool := Memory.wfFrom 0 m

/-- Whether a region holds an address. -/
def regionHolds (r : Region) (a : Nat) : Bool := decide (r.base ≤ a) && decide (a < r.base + r.size)

/-- The kind of an address: that of the first region that holds it, ram where none does (R43). -/
def regionKind (rs : List Region) (a : Nat) : Kind :=
  match rs with
  | [] => .ram
  | r :: rest => if regionHolds r a then r.kind else regionKind rest a

end Sys2Proof.Machine
end

