-- ==== Sys2Proof/Machine/State.lean ====
section
/-! DEFINITION. The machine's state as plain data (10_state.md), why a step can stop, and the state
right after reset. -/

namespace Sys2Proof.Machine

/-- The seven stored flags of P (R20). Bit 4 is not stored (R24). -/
structure Flags where
  /-- Negative (R21). -/
  n : Bool
  /-- Overflow (R22). -/
  v : Bool
  /-- Extended stack disable: true is the 8-bit stack (R23). -/
  e : Bool
  /-- Decimal mode (R25). -/
  d : Bool
  /-- Interrupt disable (R26). -/
  i : Bool
  /-- Zero (R27). -/
  z : Bool
  /-- Carry (R28). -/
  c : Bool
deriving DecidableEq, Repr

/-- What the three inputs do up to one instruction boundary: IRQ_LINE(t), RESET_LINE(t) as levels,
NMI_EDGE(t) as an event (R4, R262). -/
structure InputSample where
  irq : Bool
  nmiEdge : Bool
  reset : Bool
deriving DecidableEq, Repr

/-- The whole state. `pc` is the address of the next instruction's opcode, the spec's `opaddr` (R17). -/
structure State where
  /-- Accumulator (R10). -/
  a : Byte
  /-- Index register X (R11). -/
  x : Byte
  /-- Index register Y (R12). -/
  y : Byte
  /-- Index register Z (R13). -/
  z : Byte
  /-- Base page register (R14). -/
  b : Byte
  /-- Stack pointer S = S.H : S.L, the next free stack location (R15). -/
  sp : Word
  /-- Program counter (R17). -/
  pc : Word
  /-- The stored flags of P (R20). -/
  p : Flags
  /-- Memory contents (R40, R42). -/
  mem : Memory
  /-- Level of the IRQ input at this boundary (R32, R262). -/
  irqLine : Bool
  /-- Level of the RESET input at this boundary (R32, R263). -/
  resetLine : Bool
  /-- NMI pending latch (R32, R262). -/
  nmiPending : Bool
  /-- The samples of the boundaries to come, the nearest first. The model's own field (log entry 10). -/
  inputs : List InputSample
  /-- Draw counter, to which the free values of Config are applied. The model's own field (log entry 12). -/
  draws : Nat
  /-- The parameters of R4, which no step changes. -/
  cfg : Params
deriving DecidableEq, Repr

/-- A fault of the processor. THERE IS NONE: the machine has no synchronous exception but Break, which is
taken, and the processor never stops by itself (R260, R300). -/
inductive Fault where
deriving DecidableEq, Repr

/-- Why the model refuses to go on. -/
inductive Refusal where
  /-- Raised by exec for an instruction that has no meaning yet. Safe: the model stops. No arm uses it. -/
  | notModelled (mnemonic : String)
  /-- Raised by a read, a write or a fetch at an address of a device, whose effects the spec does not
  give (R43, R52, U7). Safe: the model stops. -/
  | deviceAccess (addr : Word)
  /-- Raised by the fetch of an instruction byte from an unmapped address (U10). Safe: the model stops. -/
  | unmappedFetch (addr : Word)
  /-- Raised by the fetch if the bytes it read decode to no instruction. Every opcode is assigned (R100),
  so no state raises it. Safe: the model stops. -/
  | undecodable (opcode : Byte)
deriving DecidableEq, Repr

/-- The outcome of an instruction or a step. -/
abbrev Result := Host.Outcome State Fault Refusal

/-- The state right after reset (R33, R290). DESIGN CHOICE (log entries 1 to 5 and 10), unsafe: A, X, Y,
S.L, N, V, Z, C, which R33 leaves unspecified, are zero; memory lists nothing; no input is active. -/
def State.reset : State where
  a := 0x00#8
  x := 0x00#8
  y := 0x00#8
  z := 0x00#8
  b := 0x00#8
  sp := 0x0100#16
  pc := mkWord (Memory.read [] 0xFFFD) (Memory.read [] 0xFFFC)
  p := ⟨false, false, true, false, true, false, false⟩
  mem := []
  irqLine := false
  resetLine := false
  nmiPending := false
  inputs := []
  draws := 0
  cfg := Params.default

end Sys2Proof.Machine
end

