-- ==== Sys2Proof/Machine/Flags.lean ====
section
/-! DEFINITION. Every flag computation and every arithmetic function of the spec, on bytes, words and
the flags alone: 00_scope.md R7 (SetNZ), 10_state.md R29 (P as a byte), 40_shift.md, 43_arith.md,
44_inc.md, 48_logic.md. A byte operation takes the operand and the flags and gives the result and the
new flags. -/

namespace Sys2Proof.Machine

/-- `SetNZ(v)` (R7). -/
def setNZ (v : Byte) (p : Flags) : Flags := { p with n := v.msb, z := v == 0#8 }

/-- `SetNZ16(w)` (R7). -/
def setNZ16 (w : Word) (p : Flags) : Flags := { p with n := w.msb, z := w == 0#16 }

/-- A flag as the bit it is in a byte. -/
def bit (f : Bool) (k : Nat) : Byte := if f then 1#8 <<< k else 0#8

/-- `PackP(brk)` (R29): N V E brk D I Z C from bit 7 to bit 0. -/
def packP (brk : Bool) (p : Flags) : Byte :=
  bit p.n 7 ||| bit p.v 6 ||| bit p.e 5 ||| bit brk 4 ||| bit p.d 3 ||| bit p.i 2 ||| bit p.z 1 ||| bit p.c 0

/-- `UnpackP(b)` (R29): bits 5 and 4 are ignored, P.E keeps its value. -/
def unpackP (b : Byte) (p : Flags) : Flags :=
  { n := b.getLsbD 7, v := b.getLsbD 6, e := p.e, d := b.getLsbD 3, i := b.getLsbD 2, z := b.getLsbD 1,
    c := b.getLsbD 0 }

/-! ### Shift and rotate (40_shift.md) -/

/-- A carry as the byte 0 or 1. -/
def carryByte (c : Bool) : Byte := if c then 1#8 else 0#8

/-- ASL (R121). -/
def aslByte (m : Byte) (p : Flags) : Byte × Flags := (m <<< 1, setNZ (m <<< 1) { p with c := m.getLsbD 7 })

/-- LSR (R122). -/
def lsrByte (m : Byte) (p : Flags) : Byte × Flags := (m >>> 1, setNZ (m >>> 1) { p with c := m.getLsbD 0 })

/-- ROL (R123): the old carry enters bit 0. -/
def rolByte (m : Byte) (p : Flags) : Byte × Flags :=
  let r := m <<< 1 ||| carryByte p.c
  (r, setNZ r { p with c := m.getLsbD 7 })

/-- ROR (R124): the old carry enters bit 7. -/
def rorByte (m : Byte) (p : Flags) : Byte × Flags :=
  let r := m >>> 1 ||| carryByte p.c <<< 7
  (r, setNZ r { p with c := m.getLsbD 0 })

/-- ASR (R125): bit 7 is copied into itself and into bit 6. -/
def asrByte (m : Byte) (p : Flags) : Byte × Flags :=
  let r := m >>> 1 ||| (m &&& 0x80#8)
  (r, setNZ r { p with c := m.getLsbD 0 })

/-- ASW (R126): the carry receives bit 15 (90_conflicts.md C2). -/
def aslWord (w : Word) (p : Flags) : Word × Flags := (w <<< 1, setNZ16 (w <<< 1) { p with c := w.getLsbD 15 })

/-- ROW (R127): the old carry enters bit 0. -/
def rolWord (w : Word) (p : Flags) : Word × Flags :=
  let r := w <<< 1 ||| zext16 (carryByte p.c)
  (r, setNZ16 r { p with c := w.getLsbD 15 })

/-! ### Increment and decrement (44_inc.md): N and Z only -/

/-- INC (R170). -/
def incByte (m : Byte) (p : Flags) : Byte × Flags := (m + 1#8, setNZ (m + 1#8) p)

/-- DEC (R171). -/
def decByte (m : Byte) (p : Flags) : Byte × Flags := (m - 1#8, setNZ (m - 1#8) p)

/-- INW (R178). -/
def incWord (w : Word) (p : Flags) : Word × Flags := (w + 1#16, setNZ16 (w + 1#16) p)

/-- DEW (R179). -/
def decWord (w : Word) (p : Flags) : Word × Flags := (w - 1#16, setNZ16 (w - 1#16) p)

/-! ### Arithmetic and compare (43_arith.md) -/

/-- NEG (R166): N and Z only. -/
def negByte (m : Byte) (p : Flags) : Byte × Flags := (0#8 - m, setNZ (0#8 - m) p)

/-- The compares (R162 to R165): register `r` against operand `m`, unsigned; V, D and the old C play no part. -/
def compareFlags (r m : Byte) (p : Flags) : Flags :=
  { p with c := decide (m.toNat ≤ r.toNat), z := r == m, n := (r - m).msb }

/-- ADC in binary mode (R160). -/
def adcBinary (a m : Byte) (p : Flags) : Byte × Flags :=
  let t := a.toNat + m.toNat + p.c.toNat
  let r := BitVec.ofNat 8 t
  (r, setNZ r { p with c := decide (256 ≤ t), v := ((a ^^^ r) &&& (m ^^^ r)).getLsbD 7 })

/-- SBC in binary mode (R161): the carry is "not borrow". -/
def sbcBinary (a m : Byte) (p : Flags) : Byte × Flags :=
  let t := a.toNat + (255 - m.toNat) + p.c.toNat
  let r := BitVec.ofNat 8 t
  (r, setNZ r { p with c := decide (256 ≤ t), v := ((a ^^^ m) &&& (a ^^^ r)).getLsbD 7 })

/-- A byte is valid BCD when both its nibbles are 0 to 9 (R168). -/
def validBcd (b : Byte) : Bool := decide (b.toNat / 16 ≤ 9) && decide (b.toNat % 16 ≤ 9)

/-- `val(b)` (R168). -/
def bcdVal (b : Byte) : Nat := 10 * (b.toNat / 16) + b.toNat % 16

/-- `bcd(n)` for n below 100 (R168). -/
def bcdByte (n : Nat) : Byte := BitVec.ofNat 8 (16 * (n / 10) + n % 10)

/-- The flags N, V, Z after a decimal operation: any value each (R168, U1). -/
def decimalFlags (draw : Nat) (carry : Bool) (p : Flags) : Flags :=
  { p with n := Config.decimalN draw, v := Config.decimalV draw, z := Config.decimalZ draw, c := carry }

/-- A, N, V, Z, C after a decimal operation on an operand that is not valid BCD: any value each (R168, U2). -/
def decimalInvalid (draw : Nat) (p : Flags) : Byte × Flags :=
  (Config.invalidBcdA draw, decimalFlags draw (Config.invalidBcdC draw) p)

/-- ADC in decimal mode (R168). -/
def adcDecimal (draw : Nat) (a m : Byte) (p : Flags) : Byte × Flags :=
  if validBcd a && validBcd m then
    let s := bcdVal a + bcdVal m + p.c.toNat
    (bcdByte (s % 100), decimalFlags draw (decide (100 ≤ s)) p)
  else decimalInvalid draw p

/-- SBC in decimal mode (R168). The difference is -100 to 99; `mod` gives 0 to 99. -/
def sbcDecimal (draw : Nat) (a m : Byte) (p : Flags) : Byte × Flags :=
  if validBcd a && validBcd m then
    let s : Int := (bcdVal a : Int) - (bcdVal m : Int) - (1 - (p.c.toNat : Int))
    (bcdByte (s % 100).toNat, decimalFlags draw (decide (0 ≤ s)) p)
  else decimalInvalid draw p

/-- ADC (R160): P.D selects the mode. -/
def adcByte (draw : Nat) (a m : Byte) (p : Flags) : Byte × Flags :=
  if p.d then adcDecimal draw a m p else adcBinary a m p

/-- SBC (R161): P.D selects the mode. -/
def sbcByte (draw : Nat) (a m : Byte) (p : Flags) : Byte × Flags :=
  if p.d then sbcDecimal draw a m p else sbcBinary a m p

/-! ### Logic and bits (48_logic.md) -/

/-- AND (R230): N and Z only. -/
def andByte (a m : Byte) (p : Flags) : Byte × Flags := (a &&& m, setNZ (a &&& m) p)

/-- ORA (R231): N and Z only. -/
def oraByte (a m : Byte) (p : Flags) : Byte × Flags := (a ||| m, setNZ (a ||| m) p)

/-- EOR (R232): N and Z only. -/
def eorByte (a m : Byte) (p : Flags) : Byte × Flags := (a ^^^ m, setNZ (a ^^^ m) p)

/-- BIT with a memory operand (R233): Z from the AND, N and V from the operand's bits 7 and 6. -/
def bitMemFlags (a m : Byte) (p : Flags) : Flags :=
  { p with z := (a &&& m) == 0#8, n := m.getLsbD 7, v := m.getLsbD 6 }

/-- BIT #d8 (R233): Z only. -/
def bitImmFlags (a m : Byte) (p : Flags) : Flags := { p with z := (a &&& m) == 0#8 }

/-- TSB (R234): Z from the value before the write. -/
def tsbByte (a m : Byte) (p : Flags) : Byte × Flags := (m ||| a, { p with z := (a &&& m) == 0#8 })

/-- TRB (R235): Z from the value before the write. -/
def trbByte (a m : Byte) (p : Flags) : Byte × Flags := (m &&& ~~~a, { p with z := (a &&& m) == 0#8 })

/-- RMBn (R236): no flag. -/
def resetBit (n : Nat) (m : Byte) (p : Flags) : Byte × Flags := (m &&& ~~~(1#8 <<< n), p)

/-- SMBn (R237): no flag. -/
def setBit (n : Nat) (m : Byte) (p : Flags) : Byte × Flags := (m ||| 1#8 <<< n, p)

end Sys2Proof.Machine
end

