-- ==== Sys2Proof/Machine/Ops.lean ====
section
/-! DEFINITION. The named operations over registers, memory and stack (00_scope.md R7, 10_state.md R16,
20_memory.md), taking an exception and returning from one (60_exceptions.md), reset
(70_reset_and_hazards.md), and the inputs. An operation that reaches memory may be refused (U7, U10). -/

namespace Sys2Proof.Machine

/-- What an operation answers: a value, or why the model refuses to go on. -/
abbrev Res (α : Type) := Except Refusal α

/-! ### Registers, each written in one place -/

/-- `A <- v`. -/
def State.setA (v : Byte) (s : State) : State := { s with a := v }
/-- `X <- v`. -/
def State.setX (v : Byte) (s : State) : State := { s with x := v }
/-- `Y <- v`. -/
def State.setY (v : Byte) (s : State) : State := { s with y := v }
/-- `Z <- v`. -/
def State.setZ (v : Byte) (s : State) : State := { s with z := v }
/-- `B <- v`. -/
def State.setB (v : Byte) (s : State) : State := { s with b := v }
/-- `S <- v`. -/
def State.setSp (v : Word) (s : State) : State := { s with sp := v }
/-- `PC <- v`. -/
def State.setPc (v : Word) (s : State) : State := { s with pc := v }
/-- The flags of P. -/
def State.setP (v : Flags) (s : State) : State := { s with p := v }
/-- The memory contents. -/
def State.setMem (m : Memory) (s : State) : State := { s with mem := m }

/-- `S.L <- v` (R15): S.H keeps its value. -/
def State.setSpLow (v : Byte) (s : State) : State := s.setSp (mkWord (hiByte s.sp) v)
/-- `S.H <- v` (R15): S.L keeps its value. -/
def State.setSpHigh (v : Byte) (s : State) : State := s.setSp (mkWord v (loByte s.sp))

/-! ### Memory (20_memory.md) -/

/-- The kind of an address (R43). -/
def kindAt (s : State) (addr : Word) : Kind := regionKind s.cfg.regions addr.toNat

/-- The byte a data read returns where it is not refused (R42, R43). `k` is the position of the read among
those of its instruction: an unmapped address gives any value per access (U10). -/
def peek (k : Nat) (addr : Word) (s : State) : Byte :=
  match kindAt s addr with
  | .unmapped => Config.unmappedByte s.draws k
  | _ => s.mem.read addr.toNat

/-- `MemRead(addr, 1)` (R42, R43): refused at a device (U7). -/
def memRead (k : Nat) (addr : Word) (s : State) : Res Byte :=
  match kindAt s addr with
  | .device => .error (.deviceAccess addr)
  | _ => .ok (peek k addr s)

/-- `MemWrite(addr, 1, v)` (R42, R43): stores in ram, is dropped in rom and at an unmapped address (U10),
is refused at a device (U7). -/
def memWrite (addr : Word) (v : Byte) (s : State) : Res State :=
  match kindAt s addr with
  | .ram => .ok (s.setMem (s.mem.write addr.toNat v))
  | .device => .error (.deviceAccess addr)
  | _ => .ok s

/-- `Read16(addr)` (R46): low byte first, the second address wraps from 0xFFFF to 0x0000. The two reads are
the accesses `k` and `k + 1` of the instruction. -/
def read16 (k : Nat) (addr : Word) (s : State) : Res Word := do
  let lo ← memRead k addr s
  let hi ← memRead (k + 1) (addr + 1#16) s
  return mkWord hi lo

/-- `B : off`, an address in the base page (R44, R84). -/
def basePage (off : Byte) (s : State) : Word := mkWord s.b off

/-- `Read16bp(off)` (R47): the second byte is at `off + 1` in the same page. -/
def read16bp (k : Nat) (off : Byte) (s : State) : Res Word := do
  let lo ← memRead k (basePage off s) s
  let hi ← memRead (k + 1) (basePage (off + 1#8) s) s
  return mkWord hi lo

/-- The two writes of a word read-modify-write, in the order of `WORD_RMW_ORDER` (R52). -/
def writeWord (loAddr hiAddr : Word) (w : Word) (s : State) : Res State :=
  match s.cfg.wordRmwOrder with
  | .loHi => do
    let s1 ← memWrite loAddr (loByte w) s
    memWrite hiAddr (hiByte w) s1
  | .hiLo => do
    let s1 ← memWrite hiAddr (hiByte w) s
    memWrite loAddr (loByte w) s1

/-! ### Stack (R16) -/

/-- `S` counted by `d` in the width P.E selects: 8 bits with S.H kept, or 16 bits (R16, R134). -/
def stackAdd (e : Bool) (sp : Word) (d : Byte) : Word :=
  if e then mkWord (hiByte sp) (loByte sp + d) else sp + zext16 d

/-- `StackInc(S)` (R16). -/
def stackInc (e : Bool) (sp : Word) : Word :=
  if e then mkWord (hiByte sp) (loByte sp + 1#8) else sp + 1#16

/-- `StackDec(S)` (R16). -/
def stackDec (e : Bool) (sp : Word) : Word :=
  if e then mkWord (hiByte sp) (loByte sp - 1#8) else sp - 1#16

/-- `Push(v)` (R16). -/
def push (v : Byte) (s : State) : Res State := do
  let s1 ← memWrite s.sp v s
  return s1.setSp (stackDec s1.p.e s1.sp)

/-- `Pull()` (R16), the read `k` of its instruction. -/
def pull (k : Nat) (s : State) : Res (Byte × State) := do
  let s1 := s.setSp (stackInc s.p.e s.sp)
  let v ← memRead k s1.sp s1
  return (v, s1)

/-- Two pushes, high byte first (R131, R132, R266). -/
def pushWord (w : Word) (s : State) : Res State := do
  let s1 ← push (hiByte w) s
  push (loByte w) s1

/-- Two pulls, low byte first (R133, R134, R135). -/
def pullWord (k : Nat) (s : State) : Res (Word × State) := do
  let (lo, s1) ← pull k s
  let (hi, s2) ← pull (k + 1) s1
  return (mkWord hi lo, s2)

/-! ### Taking an exception and returning from one (60_exceptions.md) -/

/-- `TrapEntry(vec, ret, brk)` (R266), for Break, IRQ and NMI. -/
def trapEntry (vec ret : Word) (brk : Bool) (s : State) : Res State := do
  let s1 ← pushWord ret s
  let s2 ← push (packP brk s1.p) s1
  let s3 := s2.setP { s2.p with i := true, d := false }
  let target ← read16 0 vec s3
  return s3.setPc target

/-- RTI's return (R135, R268): the status byte, then PC low, then PC high; nothing is added to PC. -/
def trapReturn (s : State) : Res State := do
  let (st, s1) ← pull 0 s
  let (ret, s2) ← pullWord 1 (s1.setP (unpackP st s1.p))
  return s2.setPc ret

/-- The reset sequence (R290, R33). A, X, Y, S.L, N, V, Z, C become any value (R34, U9, log entry 9). Nothing is
pushed and no byte of memory changes. -/
def resetSequence (s : State) : Res State := do
  let s1 : State := { s with
    a := Config.resetA s.draws
    x := Config.resetX s.draws
    y := Config.resetY s.draws
    z := 0x00#8
    b := 0x00#8
    sp := mkWord 0x01#8 (Config.resetSL s.draws)
    p := { n := Config.resetN s.draws, v := Config.resetV s.draws, e := true, d := false, i := true,
           z := Config.resetZ s.draws, c := Config.resetC s.draws }
    nmiPending := false }
  let target ← read16 0 s1.cfg.vecReset s1
  return s1.setPc target

/-! ### The boundary between two instructions (R263) -/

/-- What happens at a boundary. -/
inductive Event where
  /-- The reset sequence. -/
  | reset
  /-- Trap entry by the NMI. -/
  | nmi
  /-- Trap entry by the IRQ. -/
  | irq
  /-- The instruction at PC. -/
  | instruction
deriving DecidableEq, Repr

/-- The acceptance rule (R263), with the priority RESET, NMI, IRQ (R264). -/
def acceptedEvent (s : State) : Event :=
  if s.resetLine then .reset
  else if s.nmiPending then .nmi
  else if s.irqLine && !s.p.i then .irq
  else .instruction

/-- NMI acceptance (R262, R263): the latch is cleared, then the trap entered. -/
def takeNmi (s : State) : Res State :=
  trapEntry s.cfg.vecNmi s.pc false { s with nmiPending := false }

/-- IRQ acceptance (R263). IRQ has no latch (R262). -/
def takeIrq (s : State) : Res State := trapEntry s.cfg.vecIrq s.pc false s

/-- The inputs up to the next boundary: levels are taken over, an edge sets the NMI latch (R32, R262); with no
sample listed the levels stay and no edge comes. The draw counter advances, so that the next free values are new. -/
def nextBoundary (s : State) : State :=
  match s.inputs with
  | [] => { s with draws := s.draws + 1 }
  | i :: rest => { s with
      draws := s.draws + 1
      irqLine := i.irq
      resetLine := i.reset
      nmiPending := s.nmiPending || i.nmiEdge
      inputs := rest }

/-! ### Ending an instruction -/

/-- The outcome of an operation. -/
def outcome (r : Res State) : Result :=
  match r with
  | .ok s => .next s
  | .error e => .refused e

/-- The outcome of an instruction of `len` bytes that writes PC in no other way: PC moves past it (R18). -/
def advance (len : Word) (r : Res State) : Result :=
  match r with
  | .ok s => .next (s.setPc (s.pc + len))
  | .error e => .refused e

end Sys2Proof.Machine
end

