-- ==== Sys2Proof/Machine/Operands.lean ====
section
/-! DEFINITION. The operand forms (30_encoding.md R80 to R99) and the shapes of instruction that use them. -/

namespace Sys2Proof.Machine

/-- The forms that name one byte of memory. -/
inductive Mode where
  /-- `a8` (R84). -/
  | bp (a : Byte)
  /-- `a8,X` (R86). -/
  | bpX (a : Byte)
  /-- `a8,Y` (R87). -/
  | bpY (a : Byte)
  /-- `a16` (R85). -/
  | abs (a : Word)
  /-- `a16,X` (R89). -/
  | absX (a : Word)
  /-- `a16,Y` (R90). -/
  | absY (a : Word)
  /-- `(a8,X)` (R91). -/
  | indX (a : Byte)
  /-- `(a8),Y` (R92). -/
  | indY (a : Byte)
  /-- `(a8),Z` (R93). -/
  | indZ (a : Byte)
  /-- `(a8,S),Y` (R94). -/
  | spIndY (d : Byte)
deriving DecidableEq, Repr

/-- The operand of an instruction that only reads it: `#d8` (R82) or a byte of memory. -/
inductive Source where
  | imm (d : Byte)
  | mem (m : Mode)
deriving DecidableEq, Repr

/-- The operand of a read-modify-write instruction: `A` (R81) or a byte of memory. -/
inductive Place where
  | acc
  | mem (m : Mode)
deriving DecidableEq, Repr

/-- `EA` (R84 to R94). The pointer bytes are the accesses 0 and 1 of the instruction. Forming it writes no
register (R99). -/
def effectiveAddress (m : Mode) (s : State) : Res Word :=
  match m with
  | .bp a => .ok (basePage a s)
  | .bpX a => .ok (basePage (a + s.x) s)
  | .bpY a => .ok (basePage (a + s.y) s)
  | .abs a => .ok a
  | .absX a => .ok (a + zext16 s.x)
  | .absY a => .ok (a + zext16 s.y)
  | .indX a => read16bp 0 (a + s.x) s
  | .indY a => do
    let ptr ← read16bp 0 a s
    return ptr + zext16 s.y
  | .indZ a => do
    let ptr ← read16bp 0 a s
    return ptr + zext16 s.z
  | .spIndY d => do
    let ptr ← read16 0 (s.sp + zext16 d) s
    return ptr + zext16 s.y

/-- "Read operand" (R99). The data byte is the access 2 of the instruction. -/
def readSource (o : Source) (s : State) : Res Byte :=
  match o with
  | .imm d => .ok d
  | .mem m => do
    let ea ← effectiveAddress m s
    memRead 2 ea s

/-! ### The shapes of instruction -/

/-- A load (45_load.md): the operand goes into a register and sets N and Z. -/
def load (setReg : Byte → State → State) (o : Source) (s : State) : Res State := do
  let v ← readSource o s
  return (setReg v s).setP (setNZ v s.p)

/-- A store (45_load.md): one write, no read of the location. -/
def store (v : Byte) (m : Mode) (s : State) : Res State := do
  let ea ← effectiveAddress m s
  memWrite ea v s

/-- An operation on A and an operand with its result in A (43_arith.md, 48_logic.md). -/
def accumulate (f : Byte → Byte → Flags → Byte × Flags) (o : Source) (s : State) : Res State := do
  let m ← readSource o s
  let (r, p) := f s.a m s.p
  return (s.setA r).setP p

/-- A test of a register against an operand, for its flags only (R162 to R165, R233). -/
def testOperand (f : Byte → Byte → Flags → Flags) (reg : Byte) (o : Source) (s : State) : Res State := do
  let m ← readSource o s
  return s.setP (f reg m s.p)

/-- A read-modify-write instruction (R99): `EA` is formed once, read, and written. -/
def modify (f : Byte → Flags → Byte × Flags) (o : Place) (s : State) : Res State :=
  match o with
  | .acc =>
    let (r, p) := f s.a s.p
    .ok ((s.setA r).setP p)
  | .mem m => do
    let ea ← effectiveAddress m s
    let v ← memRead 2 ea s
    let (r, p) := f v s.p
    let s1 ← memWrite ea r s
    return s1.setP p

/-- A word read-modify-write instruction (R50, R52): read low, read high, write both bytes. -/
def modifyWord (f : Word → Flags → Word × Flags) (loAddr hiAddr : Word) (s : State) : Res State := do
  let lo ← memRead 2 loAddr s
  let hi ← memRead 3 hiAddr s
  let (r, p) := f (mkWord hi lo) s.p
  let s1 ← writeWord loAddr hiAddr r s
  return s1.setP p

/-- An operation on one register without operand, setting N and Z as `f` says. -/
def modifyReg (f : Byte → Flags → Byte × Flags) (reg : Byte) (setReg : Byte → State → State) (s : State) : Res State :=
  let (r, p) := f reg s.p
  .ok ((setReg r s).setP p)

/-- A transfer whose destination is A, X, Y or Z (47_trans.md): N and Z from the value copied. -/
def transfer (v : Byte) (setReg : Byte → State → State) (s : State) : Res State :=
  .ok ((setReg v s).setP (setNZ v s.p))

/-- A pull into A, X, Y or Z (46_stack.md). -/
def pullReg (setReg : Byte → State → State) (s : State) : Res State := do
  let (v, s1) ← pull 0 s
  return (setReg v s1).setP (setNZ v s1.p)

/-- PHW's two pushes, in the order of `PHW_ORDER` (R205). -/
def pushOperandWord (w : Word) (s : State) : Res State :=
  match s.cfg.phwOrder with
  | .highFirst => do
    let s1 ← push (hiByte w) s
    push (loByte w) s1
  | .lowFirst => do
    let s1 ← push (loByte w) s
    push (hiByte w) s1

/-! ### Control transfer -/

/-- `r8` branch (R95, R240): both the base and the next instruction are at `opaddr + 2`. -/
def branch8 (cond : Bool) (r : Byte) (s : State) : State :=
  s.setPc (if cond then s.pc + 2#16 + sext16 r else s.pc + 2#16)

/-- `r16` branch (R97, R240): the base is `opaddr + 2`, the next instruction is at `opaddr + 3`. -/
def branch16 (cond : Bool) (r : Word) (s : State) : State :=
  s.setPc (if cond then s.pc + 2#16 + r else s.pc + 3#16)

/-- `a8,r8` branch (R98, R250, R251): taken when bit `n` of the byte at `B : a` is `want`. -/
def branchBit (n : Nat) (want : Bool) (a r : Byte) (s : State) : Res State := do
  let m ← memRead 2 (basePage a s) s
  return s.setPc (if m.getLsbD n = want then s.pc + 3#16 + sext16 r else s.pc + 3#16)

/-- The target of `(a16)` and `(a16,X)` (R88, R96). -/
def jumpThrough (ptr : Word) (s : State) : Res State := do
  let target ← read16 0 ptr s
  return s.setPc target

/-- The return address JSR and BSR push: that of the instruction's last byte (R131, R132). -/
def pushReturn (s : State) : Res State := pushWord (s.pc + 2#16) s

/-- RTS (R133): one is added to the pulled address. -/
def returnSub (s : State) : Res State := do
  let (ret, s1) ← pullWord 0 s
  return s1.setPc (ret + 1#16)

/-- RTN_ORDER of a state: its parameter, or the open order of the real part (R134, D9). -/
def rtnOrderOf (s : State) : RtnOrder := s.cfg.rtnOrder.getD Config.openRtnOrder

/-- How much of RTN's operand is added to S before the return address is pulled. For a zero operand the orders
agree (R134). -/
def rtnBefore (d : Byte) (s : State) : Byte :=
  if d = 0#8 then 0#8
  else match rtnOrderOf s with
    | .adjustThenPull => d
    | .pullThenAdjust => 0#8

/-- RTN (R134): RTS that also adds the unsigned operand to S, before or after the pulls. -/
def returnAdjust (d : Byte) (s : State) : Res State := do
  let before := rtnBefore d s
  let s1 := s.setSp (stackAdd s.p.e s.sp before)
  let (ret, s2) ← pullWord 0 s1
  let s3 := s2.setSp (stackAdd s2.p.e s2.sp (d - before))
  return s3.setPc (ret + 1#16)

end Sys2Proof.Machine
end

