-- ==== Sys2Proof/Machine/Arith.lean ====
section
/-! DEFINITION. Arithmetic and compare (43_arith.md): one meaning for each opcode, in the order of its rules.
Each is one line over the shared operations of Flags, Ops and Operands. -/

namespace Sys2Proof.Machine

/-- 61 ADC (a8,X) (R160, R91). -/
def execAdcIndX (a : Byte) (s : State) : Result :=
  advance 2#16 (accumulate (adcByte s.draws) (.mem (.indX a)) s)

/-- 65 ADC a8 (R160, R84). -/
def execAdcBp (a : Byte) (s : State) : Result :=
  advance 2#16 (accumulate (adcByte s.draws) (.mem (.bp a)) s)

/-- 69 ADC #d8 (R160, R82). -/
def execAdcImm (d : Byte) (s : State) : Result :=
  advance 2#16 (accumulate (adcByte s.draws) (.imm d) s)

/-- 6D ADC a16 (R160, R85). -/
def execAdcAbs (a : Word) (s : State) : Result :=
  advance 3#16 (accumulate (adcByte s.draws) (.mem (.abs a)) s)

/-- 71 ADC (a8),Y (R160, R92). -/
def execAdcIndY (a : Byte) (s : State) : Result :=
  advance 2#16 (accumulate (adcByte s.draws) (.mem (.indY a)) s)

/-- 72 ADC (a8),Z (R160, R93). -/
def execAdcIndZ (a : Byte) (s : State) : Result :=
  advance 2#16 (accumulate (adcByte s.draws) (.mem (.indZ a)) s)

/-- 75 ADC a8,X (R160, R86). -/
def execAdcBpX (a : Byte) (s : State) : Result :=
  advance 2#16 (accumulate (adcByte s.draws) (.mem (.bpX a)) s)

/-- 79 ADC a16,Y (R160, R90). -/
def execAdcAbsY (a : Word) (s : State) : Result :=
  advance 3#16 (accumulate (adcByte s.draws) (.mem (.absY a)) s)

/-- 7D ADC a16,X (R160, R89). -/
def execAdcAbsX (a : Word) (s : State) : Result :=
  advance 3#16 (accumulate (adcByte s.draws) (.mem (.absX a)) s)

/-- E1 SBC (a8,X) (R161, R91). -/
def execSbcIndX (a : Byte) (s : State) : Result :=
  advance 2#16 (accumulate (sbcByte s.draws) (.mem (.indX a)) s)

/-- E5 SBC a8 (R161, R84). -/
def execSbcBp (a : Byte) (s : State) : Result :=
  advance 2#16 (accumulate (sbcByte s.draws) (.mem (.bp a)) s)

/-- E9 SBC #d8 (R161, R82). -/
def execSbcImm (d : Byte) (s : State) : Result :=
  advance 2#16 (accumulate (sbcByte s.draws) (.imm d) s)

/-- ED SBC a16 (R161, R85). -/
def execSbcAbs (a : Word) (s : State) : Result :=
  advance 3#16 (accumulate (sbcByte s.draws) (.mem (.abs a)) s)

/-- F1 SBC (a8),Y (R161, R92). -/
def execSbcIndY (a : Byte) (s : State) : Result :=
  advance 2#16 (accumulate (sbcByte s.draws) (.mem (.indY a)) s)

/-- F2 SBC (a8),Z (R161, R93). -/
def execSbcIndZ (a : Byte) (s : State) : Result :=
  advance 2#16 (accumulate (sbcByte s.draws) (.mem (.indZ a)) s)

/-- F5 SBC a8,X (R161, R86). -/
def execSbcBpX (a : Byte) (s : State) : Result :=
  advance 2#16 (accumulate (sbcByte s.draws) (.mem (.bpX a)) s)

/-- F9 SBC a16,Y (R161, R90). -/
def execSbcAbsY (a : Word) (s : State) : Result :=
  advance 3#16 (accumulate (sbcByte s.draws) (.mem (.absY a)) s)

/-- FD SBC a16,X (R161, R89). -/
def execSbcAbsX (a : Word) (s : State) : Result :=
  advance 3#16 (accumulate (sbcByte s.draws) (.mem (.absX a)) s)

/-- C1 CMP (a8,X) (R162, R91). -/
def execCmpIndX (a : Byte) (s : State) : Result :=
  advance 2#16 (testOperand compareFlags s.a (.mem (.indX a)) s)

/-- C5 CMP a8 (R162, R84). -/
def execCmpBp (a : Byte) (s : State) : Result :=
  advance 2#16 (testOperand compareFlags s.a (.mem (.bp a)) s)

/-- C9 CMP #d8 (R162, R82). -/
def execCmpImm (d : Byte) (s : State) : Result :=
  advance 2#16 (testOperand compareFlags s.a (.imm d) s)

/-- CD CMP a16 (R162, R85). -/
def execCmpAbs (a : Word) (s : State) : Result :=
  advance 3#16 (testOperand compareFlags s.a (.mem (.abs a)) s)

/-- D1 CMP (a8),Y (R162, R92). -/
def execCmpIndY (a : Byte) (s : State) : Result :=
  advance 2#16 (testOperand compareFlags s.a (.mem (.indY a)) s)

/-- D2 CMP (a8),Z (R162, R93). -/
def execCmpIndZ (a : Byte) (s : State) : Result :=
  advance 2#16 (testOperand compareFlags s.a (.mem (.indZ a)) s)

/-- D5 CMP a8,X (R162, R86). -/
def execCmpBpX (a : Byte) (s : State) : Result :=
  advance 2#16 (testOperand compareFlags s.a (.mem (.bpX a)) s)

/-- D9 CMP a16,Y (R162, R90). -/
def execCmpAbsY (a : Word) (s : State) : Result :=
  advance 3#16 (testOperand compareFlags s.a (.mem (.absY a)) s)

/-- DD CMP a16,X (R162, R89). -/
def execCmpAbsX (a : Word) (s : State) : Result :=
  advance 3#16 (testOperand compareFlags s.a (.mem (.absX a)) s)

/-- E0 CPX #d8 (R163, R82). -/
def execCpxImm (d : Byte) (s : State) : Result :=
  advance 2#16 (testOperand compareFlags s.x (.imm d) s)

/-- E4 CPX a8 (R163, R84). -/
def execCpxBp (a : Byte) (s : State) : Result :=
  advance 2#16 (testOperand compareFlags s.x (.mem (.bp a)) s)

/-- EC CPX a16 (R163, R85). -/
def execCpxAbs (a : Word) (s : State) : Result :=
  advance 3#16 (testOperand compareFlags s.x (.mem (.abs a)) s)

/-- C0 CPY #d8 (R164, R82). -/
def execCpyImm (d : Byte) (s : State) : Result :=
  advance 2#16 (testOperand compareFlags s.y (.imm d) s)

/-- C4 CPY a8 (R164, R84). -/
def execCpyBp (a : Byte) (s : State) : Result :=
  advance 2#16 (testOperand compareFlags s.y (.mem (.bp a)) s)

/-- CC CPY a16 (R164, R85). -/
def execCpyAbs (a : Word) (s : State) : Result :=
  advance 3#16 (testOperand compareFlags s.y (.mem (.abs a)) s)

/-- C2 CPZ #d8 (R165, R82). -/
def execCpzImm (d : Byte) (s : State) : Result :=
  advance 2#16 (testOperand compareFlags s.z (.imm d) s)

/-- D4 CPZ a8 (R165, R84). -/
def execCpzBp (a : Byte) (s : State) : Result :=
  advance 2#16 (testOperand compareFlags s.z (.mem (.bp a)) s)

/-- DC CPZ a16 (R165, R85). -/
def execCpzAbs (a : Word) (s : State) : Result :=
  advance 3#16 (testOperand compareFlags s.z (.mem (.abs a)) s)

/-- 42 NEG A (R166, R81). -/
def execNeg (s : State) : Result :=
  advance 1#16 (modify negByte .acc s)

end Sys2Proof.Machine
end

