-- ==== Sys2Proof/Machine/Branch.lean ====
section
/-! DEFINITION. Branches (49_branch.md): one meaning for each opcode, in the order of its rules.
Each is one line over the shared operations of Flags, Ops and Operands. -/

namespace Sys2Proof.Machine

/-- 10 BPL r8 (R241, R95). -/
def execBplR8 (r : Byte) (s : State) : Result :=
  .next (branch8 (!s.p.n) r s)

/-- 13 BPL r16 (R241, R97). -/
def execBplR16 (r : Word) (s : State) : Result :=
  .next (branch16 (!s.p.n) r s)

/-- 30 BMI r8 (R242, R95). -/
def execBmiR8 (r : Byte) (s : State) : Result :=
  .next (branch8 s.p.n r s)

/-- 33 BMI r16 (R242, R97). -/
def execBmiR16 (r : Word) (s : State) : Result :=
  .next (branch16 s.p.n r s)

/-- 50 BVC r8 (R243, R95). -/
def execBvcR8 (r : Byte) (s : State) : Result :=
  .next (branch8 (!s.p.v) r s)

/-- 53 BVC r16 (R243, R97). -/
def execBvcR16 (r : Word) (s : State) : Result :=
  .next (branch16 (!s.p.v) r s)

/-- 70 BVS r8 (R244, R95). -/
def execBvsR8 (r : Byte) (s : State) : Result :=
  .next (branch8 s.p.v r s)

/-- 73 BVS r16 (R244, R97). -/
def execBvsR16 (r : Word) (s : State) : Result :=
  .next (branch16 s.p.v r s)

/-- 90 BCC r8 (R245, R95). -/
def execBccR8 (r : Byte) (s : State) : Result :=
  .next (branch8 (!s.p.c) r s)

/-- 93 BCC r16 (R245, R97). -/
def execBccR16 (r : Word) (s : State) : Result :=
  .next (branch16 (!s.p.c) r s)

/-- B0 BCS r8 (R246, R95). -/
def execBcsR8 (r : Byte) (s : State) : Result :=
  .next (branch8 s.p.c r s)

/-- B3 BCS r16 (R246, R97). -/
def execBcsR16 (r : Word) (s : State) : Result :=
  .next (branch16 s.p.c r s)

/-- D0 BNE r8 (R247, R95). -/
def execBneR8 (r : Byte) (s : State) : Result :=
  .next (branch8 (!s.p.z) r s)

/-- D3 BNE r16 (R247, R97). -/
def execBneR16 (r : Word) (s : State) : Result :=
  .next (branch16 (!s.p.z) r s)

/-- F0 BEQ r8 (R248, R95). -/
def execBeqR8 (r : Byte) (s : State) : Result :=
  .next (branch8 s.p.z r s)

/-- F3 BEQ r16 (R248, R97). -/
def execBeqR16 (r : Word) (s : State) : Result :=
  .next (branch16 s.p.z r s)

/-- 80 BRA r8 (R249, R95). -/
def execBraR8 (r : Byte) (s : State) : Result :=
  .next (branch8 true r s)

/-- 83 BRA r16 (R249, R97). -/
def execBraR16 (r : Word) (s : State) : Result :=
  .next (branch16 true r s)

/-- 0F BBR0 a8,r8 (R250, R98). -/
def execBbr0 (a : Byte) (r : Byte) (s : State) : Result :=
  outcome (branchBit 0 false a r s)

/-- 1F BBR1 a8,r8 (R250, R98). -/
def execBbr1 (a : Byte) (r : Byte) (s : State) : Result :=
  outcome (branchBit 1 false a r s)

/-- 2F BBR2 a8,r8 (R250, R98). -/
def execBbr2 (a : Byte) (r : Byte) (s : State) : Result :=
  outcome (branchBit 2 false a r s)

/-- 3F BBR3 a8,r8 (R250, R98). -/
def execBbr3 (a : Byte) (r : Byte) (s : State) : Result :=
  outcome (branchBit 3 false a r s)

/-- 4F BBR4 a8,r8 (R250, R98). -/
def execBbr4 (a : Byte) (r : Byte) (s : State) : Result :=
  outcome (branchBit 4 false a r s)

/-- 5F BBR5 a8,r8 (R250, R98). -/
def execBbr5 (a : Byte) (r : Byte) (s : State) : Result :=
  outcome (branchBit 5 false a r s)

/-- 6F BBR6 a8,r8 (R250, R98). -/
def execBbr6 (a : Byte) (r : Byte) (s : State) : Result :=
  outcome (branchBit 6 false a r s)

/-- 7F BBR7 a8,r8 (R250, R98). -/
def execBbr7 (a : Byte) (r : Byte) (s : State) : Result :=
  outcome (branchBit 7 false a r s)

/-- 8F BBS0 a8,r8 (R251, R98). -/
def execBbs0 (a : Byte) (r : Byte) (s : State) : Result :=
  outcome (branchBit 0 true a r s)

/-- 9F BBS1 a8,r8 (R251, R98). -/
def execBbs1 (a : Byte) (r : Byte) (s : State) : Result :=
  outcome (branchBit 1 true a r s)

/-- AF BBS2 a8,r8 (R251, R98). -/
def execBbs2 (a : Byte) (r : Byte) (s : State) : Result :=
  outcome (branchBit 2 true a r s)

/-- BF BBS3 a8,r8 (R251, R98). -/
def execBbs3 (a : Byte) (r : Byte) (s : State) : Result :=
  outcome (branchBit 3 true a r s)

/-- CF BBS4 a8,r8 (R251, R98). -/
def execBbs4 (a : Byte) (r : Byte) (s : State) : Result :=
  outcome (branchBit 4 true a r s)

/-- DF BBS5 a8,r8 (R251, R98). -/
def execBbs5 (a : Byte) (r : Byte) (s : State) : Result :=
  outcome (branchBit 5 true a r s)

/-- EF BBS6 a8,r8 (R251, R98). -/
def execBbs6 (a : Byte) (r : Byte) (s : State) : Result :=
  outcome (branchBit 6 true a r s)

/-- FF BBS7 a8,r8 (R251, R98). -/
def execBbs7 (a : Byte) (r : Byte) (s : State) : Result :=
  outcome (branchBit 7 true a r s)

end Sys2Proof.Machine
end

