-- ==== Sys2Proof/Machine/Control.lean ====
section
/-! DEFINITION. Jumps, calls, returns, break and no-operations (41_ctrl_nop.md): one meaning for each opcode, in the order of its rules.
Each is one line over the shared operations of Flags, Ops and Operands. -/

namespace Sys2Proof.Machine

/-- 4C JMP a16 (R130, R85). -/
def execJmpAbs (a : Word) (s : State) : Result :=
  .next (s.setPc a)

/-- 6C JMP (a16) (R130, R88). -/
def execJmpAbsInd (a : Word) (s : State) : Result :=
  outcome (jumpThrough a s)

/-- 7C JMP (a16,X) (R130, R96). -/
def execJmpAbsXInd (a : Word) (s : State) : Result :=
  outcome (jumpThrough (a + zext16 s.x) s)

/-- 20 JSR a16 (R131, R85). -/
def execJsrAbs (a : Word) (s : State) : Result :=
  outcome (do
    let s1 ← pushReturn s
    return s1.setPc a)

/-- 22 JSR (a16) (R131, R88). -/
def execJsrAbsInd (a : Word) (s : State) : Result :=
  outcome (do
    let s1 ← pushReturn s
    jumpThrough a s1)

/-- 23 JSR (a16,X) (R131, R96). -/
def execJsrAbsXInd (a : Word) (s : State) : Result :=
  outcome (do
    let s1 ← pushReturn s
    jumpThrough (a + zext16 s1.x) s1)

/-- 63 BSR r16 (R132, R97). -/
def execBsr (r : Word) (s : State) : Result :=
  outcome (do
    let s1 ← pushReturn s
    return s1.setPc (s1.pc + 2#16 + r))

/-- 60 RTS (R133). -/
def execRts (s : State) : Result :=
  outcome (returnSub s)

/-- 62 RTN #d8 (R134, R82). -/
def execRtn (d : Byte) (s : State) : Result :=
  outcome (returnAdjust d s)

/-- 40 RTI (R135). -/
def execRti (s : State) : Result :=
  outcome (trapReturn s)

/-- EA NOP (R136). -/
def execNop (s : State) : Result :=
  advance 1#16 (.ok s)

/-- 5C AUG (R137): a no-operation of four bytes. -/
def execAug (_b1 : Byte) (_b2 : Byte) (_b3 : Byte) (s : State) : Result :=
  advance 4#16 (.ok s)

/-- 00 BRK (R138): takes Break (R261), past the skipped byte. -/
def execBrk (_skipped : Byte) (s : State) : Result :=
  outcome (trapEntry s.cfg.vecIrq (s.pc + 2#16) true s)

end Sys2Proof.Machine
end

