-- ==== Sys2Proof/Machine/FlagInstr.lean ====
section
/-! DEFINITION. Flag set and clear (42_flags.md): one meaning for each opcode, in the order of its rules.
Each is one line over the shared operations of Flags, Ops and Operands. -/

namespace Sys2Proof.Machine

/-- 18 CLC (R145). -/
def execClc (s : State) : Result :=
  advance 1#16 (.ok (s.setP { s.p with c := false }))

/-- 38 SEC (R146). -/
def execSec (s : State) : Result :=
  advance 1#16 (.ok (s.setP { s.p with c := true }))

/-- D8 CLD (R147). -/
def execCld (s : State) : Result :=
  advance 1#16 (.ok (s.setP { s.p with d := false }))

/-- F8 SED (R148). -/
def execSed (s : State) : Result :=
  advance 1#16 (.ok (s.setP { s.p with d := true }))

/-- 58 CLI (R149). -/
def execCli (s : State) : Result :=
  advance 1#16 (.ok (s.setP { s.p with i := false }))

/-- 78 SEI (R150). -/
def execSei (s : State) : Result :=
  advance 1#16 (.ok (s.setP { s.p with i := true }))

/-- B8 CLV (R151). -/
def execClv (s : State) : Result :=
  advance 1#16 (.ok (s.setP { s.p with v := false }))

/-- 02 CLE (R152). -/
def execCle (s : State) : Result :=
  advance 1#16 (.ok (s.setP { s.p with e := false }))

/-- 03 SEE (R153). -/
def execSee (s : State) : Result :=
  advance 1#16 (.ok (s.setP { s.p with e := true }))

end Sys2Proof.Machine
end

