-- ==== Sys2Proof/Machine/Inc.lean ====
section
/-! DEFINITION. Increment and decrement (44_inc.md): one meaning for each opcode, in the order of its rules.
Each is one line over the shared operations of Flags, Ops and Operands. -/

namespace Sys2Proof.Machine

/-- 1A INC A (R170, R81). -/
def execIncA (s : State) : Result :=
  advance 1#16 (modify incByte .acc s)

/-- E6 INC a8 (R170, R84). -/
def execIncBp (a : Byte) (s : State) : Result :=
  advance 2#16 (modify incByte (.mem (.bp a)) s)

/-- EE INC a16 (R170, R85). -/
def execIncAbs (a : Word) (s : State) : Result :=
  advance 3#16 (modify incByte (.mem (.abs a)) s)

/-- F6 INC a8,X (R170, R86). -/
def execIncBpX (a : Byte) (s : State) : Result :=
  advance 2#16 (modify incByte (.mem (.bpX a)) s)

/-- FE INC a16,X (R170, R89). -/
def execIncAbsX (a : Word) (s : State) : Result :=
  advance 3#16 (modify incByte (.mem (.absX a)) s)

/-- 3A DEC A (R171, R81). -/
def execDecA (s : State) : Result :=
  advance 1#16 (modify decByte .acc s)

/-- C6 DEC a8 (R171, R84). -/
def execDecBp (a : Byte) (s : State) : Result :=
  advance 2#16 (modify decByte (.mem (.bp a)) s)

/-- CE DEC a16 (R171, R85). -/
def execDecAbs (a : Word) (s : State) : Result :=
  advance 3#16 (modify decByte (.mem (.abs a)) s)

/-- D6 DEC a8,X (R171, R86). -/
def execDecBpX (a : Byte) (s : State) : Result :=
  advance 2#16 (modify decByte (.mem (.bpX a)) s)

/-- DE DEC a16,X (R171, R89). -/
def execDecAbsX (a : Word) (s : State) : Result :=
  advance 3#16 (modify decByte (.mem (.absX a)) s)

/-- E8 INX (R172). -/
def execInx (s : State) : Result :=
  advance 1#16 (modifyReg incByte s.x State.setX s)

/-- C8 INY (R173). -/
def execIny (s : State) : Result :=
  advance 1#16 (modifyReg incByte s.y State.setY s)

/-- 1B INZ (R174). -/
def execInz (s : State) : Result :=
  advance 1#16 (modifyReg incByte s.z State.setZ s)

/-- CA DEX (R175). -/
def execDex (s : State) : Result :=
  advance 1#16 (modifyReg decByte s.x State.setX s)

/-- 88 DEY (R176). -/
def execDey (s : State) : Result :=
  advance 1#16 (modifyReg decByte s.y State.setY s)

/-- 3B DEZ (R177). -/
def execDez (s : State) : Result :=
  advance 1#16 (modifyReg decByte s.z State.setZ s)

/-- E3 INW a8 (R178, R84). -/
def execInw (a : Byte) (s : State) : Result :=
  advance 2#16 (modifyWord incWord (basePage a s) (basePage (a + 1#8) s) s)

/-- C3 DEW a8 (R179, R84). -/
def execDew (a : Byte) (s : State) : Result :=
  advance 2#16 (modifyWord decWord (basePage a s) (basePage (a + 1#8) s) s)

end Sys2Proof.Machine
end

