-- ==== Sys2Proof/Machine/LoadStore.lean ====
section
/-! DEFINITION. Load and store (45_load.md): one meaning for each opcode, in the order of its rules.
Each is one line over the shared operations of Flags, Ops and Operands. -/

namespace Sys2Proof.Machine

/-- A1 LDA (a8,X) (R185, R91). -/
def execLdaIndX (a : Byte) (s : State) : Result :=
  advance 2#16 (load State.setA (.mem (.indX a)) s)

/-- A5 LDA a8 (R185, R84). -/
def execLdaBp (a : Byte) (s : State) : Result :=
  advance 2#16 (load State.setA (.mem (.bp a)) s)

/-- A9 LDA #d8 (R185, R82). -/
def execLdaImm (d : Byte) (s : State) : Result :=
  advance 2#16 (load State.setA (.imm d) s)

/-- AD LDA a16 (R185, R85). -/
def execLdaAbs (a : Word) (s : State) : Result :=
  advance 3#16 (load State.setA (.mem (.abs a)) s)

/-- B1 LDA (a8),Y (R185, R92). -/
def execLdaIndY (a : Byte) (s : State) : Result :=
  advance 2#16 (load State.setA (.mem (.indY a)) s)

/-- B2 LDA (a8),Z (R185, R93). -/
def execLdaIndZ (a : Byte) (s : State) : Result :=
  advance 2#16 (load State.setA (.mem (.indZ a)) s)

/-- B5 LDA a8,X (R185, R86). -/
def execLdaBpX (a : Byte) (s : State) : Result :=
  advance 2#16 (load State.setA (.mem (.bpX a)) s)

/-- B9 LDA a16,Y (R185, R90). -/
def execLdaAbsY (a : Word) (s : State) : Result :=
  advance 3#16 (load State.setA (.mem (.absY a)) s)

/-- BD LDA a16,X (R185, R89). -/
def execLdaAbsX (a : Word) (s : State) : Result :=
  advance 3#16 (load State.setA (.mem (.absX a)) s)

/-- E2 LDA (a8,S),Y (R185, R94). -/
def execLdaSpIndY (d : Byte) (s : State) : Result :=
  advance 2#16 (load State.setA (.mem (.spIndY d)) s)

/-- A2 LDX #d8 (R186, R82). -/
def execLdxImm (d : Byte) (s : State) : Result :=
  advance 2#16 (load State.setX (.imm d) s)

/-- A6 LDX a8 (R186, R84). -/
def execLdxBp (a : Byte) (s : State) : Result :=
  advance 2#16 (load State.setX (.mem (.bp a)) s)

/-- AE LDX a16 (R186, R85). -/
def execLdxAbs (a : Word) (s : State) : Result :=
  advance 3#16 (load State.setX (.mem (.abs a)) s)

/-- B6 LDX a8,Y (R186, R87). -/
def execLdxBpY (a : Byte) (s : State) : Result :=
  advance 2#16 (load State.setX (.mem (.bpY a)) s)

/-- BE LDX a16,Y (R186, R90). -/
def execLdxAbsY (a : Word) (s : State) : Result :=
  advance 3#16 (load State.setX (.mem (.absY a)) s)

/-- A0 LDY #d8 (R187, R82). -/
def execLdyImm (d : Byte) (s : State) : Result :=
  advance 2#16 (load State.setY (.imm d) s)

/-- A4 LDY a8 (R187, R84). -/
def execLdyBp (a : Byte) (s : State) : Result :=
  advance 2#16 (load State.setY (.mem (.bp a)) s)

/-- AC LDY a16 (R187, R85). -/
def execLdyAbs (a : Word) (s : State) : Result :=
  advance 3#16 (load State.setY (.mem (.abs a)) s)

/-- B4 LDY a8,X (R187, R86). -/
def execLdyBpX (a : Byte) (s : State) : Result :=
  advance 2#16 (load State.setY (.mem (.bpX a)) s)

/-- BC LDY a16,X (R187, R89). -/
def execLdyAbsX (a : Word) (s : State) : Result :=
  advance 3#16 (load State.setY (.mem (.absX a)) s)

/-- A3 LDZ #d8 (R188, R82). -/
def execLdzImm (d : Byte) (s : State) : Result :=
  advance 2#16 (load State.setZ (.imm d) s)

/-- AB LDZ a16 (R188, R85). -/
def execLdzAbs (a : Word) (s : State) : Result :=
  advance 3#16 (load State.setZ (.mem (.abs a)) s)

/-- BB LDZ a16,X (R188, R89). -/
def execLdzAbsX (a : Word) (s : State) : Result :=
  advance 3#16 (load State.setZ (.mem (.absX a)) s)

/-- 81 STA (a8,X) (R189, R91). -/
def execStaIndX (a : Byte) (s : State) : Result :=
  advance 2#16 (store s.a (.indX a) s)

/-- 82 STA (a8,S),Y (R189, R94). -/
def execStaSpIndY (d : Byte) (s : State) : Result :=
  advance 2#16 (store s.a (.spIndY d) s)

/-- 85 STA a8 (R189, R84). -/
def execStaBp (a : Byte) (s : State) : Result :=
  advance 2#16 (store s.a (.bp a) s)

/-- 8D STA a16 (R189, R85). -/
def execStaAbs (a : Word) (s : State) : Result :=
  advance 3#16 (store s.a (.abs a) s)

/-- 91 STA (a8),Y (R189, R92). -/
def execStaIndY (a : Byte) (s : State) : Result :=
  advance 2#16 (store s.a (.indY a) s)

/-- 92 STA (a8),Z (R189, R93). -/
def execStaIndZ (a : Byte) (s : State) : Result :=
  advance 2#16 (store s.a (.indZ a) s)

/-- 95 STA a8,X (R189, R86). -/
def execStaBpX (a : Byte) (s : State) : Result :=
  advance 2#16 (store s.a (.bpX a) s)

/-- 99 STA a16,Y (R189, R90). -/
def execStaAbsY (a : Word) (s : State) : Result :=
  advance 3#16 (store s.a (.absY a) s)

/-- 9D STA a16,X (R189, R89). -/
def execStaAbsX (a : Word) (s : State) : Result :=
  advance 3#16 (store s.a (.absX a) s)

/-- 86 STX a8 (R190, R84). -/
def execStxBp (a : Byte) (s : State) : Result :=
  advance 2#16 (store s.x (.bp a) s)

/-- 8E STX a16 (R190, R85). -/
def execStxAbs (a : Word) (s : State) : Result :=
  advance 3#16 (store s.x (.abs a) s)

/-- 96 STX a8,Y (R190, R87). -/
def execStxBpY (a : Byte) (s : State) : Result :=
  advance 2#16 (store s.x (.bpY a) s)

/-- 9B STX a16,Y (R190, R90). -/
def execStxAbsY (a : Word) (s : State) : Result :=
  advance 3#16 (store s.x (.absY a) s)

/-- 84 STY a8 (R191, R84). -/
def execStyBp (a : Byte) (s : State) : Result :=
  advance 2#16 (store s.y (.bp a) s)

/-- 8B STY a16,X (R191, R89). -/
def execStyAbsX (a : Word) (s : State) : Result :=
  advance 3#16 (store s.y (.absX a) s)

/-- 8C STY a16 (R191, R85). -/
def execStyAbs (a : Word) (s : State) : Result :=
  advance 3#16 (store s.y (.abs a) s)

/-- 94 STY a8,X (R191, R86). -/
def execStyBpX (a : Byte) (s : State) : Result :=
  advance 2#16 (store s.y (.bpX a) s)

/-- 64 STZ a8 (R192, R84). -/
def execStzBp (a : Byte) (s : State) : Result :=
  advance 2#16 (store s.z (.bp a) s)

/-- 74 STZ a8,X (R192, R86). -/
def execStzBpX (a : Byte) (s : State) : Result :=
  advance 2#16 (store s.z (.bpX a) s)

/-- 9C STZ a16 (R192, R85). -/
def execStzAbs (a : Word) (s : State) : Result :=
  advance 3#16 (store s.z (.abs a) s)

/-- 9E STZ a16,X (R192, R89). -/
def execStzAbsX (a : Word) (s : State) : Result :=
  advance 3#16 (store s.z (.absX a) s)

end Sys2Proof.Machine
end

