-- ==== Sys2Proof/Machine/Logic.lean ====
section
/-! DEFINITION. Logic and bit instructions (48_logic.md): one meaning for each opcode, in the order of its rules.
Each is one line over the shared operations of Flags, Ops and Operands. -/

namespace Sys2Proof.Machine

/-- 21 AND (a8,X) (R230, R91). -/
def execAndIndX (a : Byte) (s : State) : Result :=
  advance 2#16 (accumulate andByte (.mem (.indX a)) s)

/-- 25 AND a8 (R230, R84). -/
def execAndBp (a : Byte) (s : State) : Result :=
  advance 2#16 (accumulate andByte (.mem (.bp a)) s)

/-- 29 AND #d8 (R230, R82). -/
def execAndImm (d : Byte) (s : State) : Result :=
  advance 2#16 (accumulate andByte (.imm d) s)

/-- 2D AND a16 (R230, R85). -/
def execAndAbs (a : Word) (s : State) : Result :=
  advance 3#16 (accumulate andByte (.mem (.abs a)) s)

/-- 31 AND (a8),Y (R230, R92). -/
def execAndIndY (a : Byte) (s : State) : Result :=
  advance 2#16 (accumulate andByte (.mem (.indY a)) s)

/-- 32 AND (a8),Z (R230, R93). -/
def execAndIndZ (a : Byte) (s : State) : Result :=
  advance 2#16 (accumulate andByte (.mem (.indZ a)) s)

/-- 35 AND a8,X (R230, R86). -/
def execAndBpX (a : Byte) (s : State) : Result :=
  advance 2#16 (accumulate andByte (.mem (.bpX a)) s)

/-- 39 AND a16,Y (R230, R90). -/
def execAndAbsY (a : Word) (s : State) : Result :=
  advance 3#16 (accumulate andByte (.mem (.absY a)) s)

/-- 3D AND a16,X (R230, R89). -/
def execAndAbsX (a : Word) (s : State) : Result :=
  advance 3#16 (accumulate andByte (.mem (.absX a)) s)

/-- 01 ORA (a8,X) (R231, R91). -/
def execOraIndX (a : Byte) (s : State) : Result :=
  advance 2#16 (accumulate oraByte (.mem (.indX a)) s)

/-- 05 ORA a8 (R231, R84). -/
def execOraBp (a : Byte) (s : State) : Result :=
  advance 2#16 (accumulate oraByte (.mem (.bp a)) s)

/-- 09 ORA #d8 (R231, R82). -/
def execOraImm (d : Byte) (s : State) : Result :=
  advance 2#16 (accumulate oraByte (.imm d) s)

/-- 0D ORA a16 (R231, R85). -/
def execOraAbs (a : Word) (s : State) : Result :=
  advance 3#16 (accumulate oraByte (.mem (.abs a)) s)

/-- 11 ORA (a8),Y (R231, R92). -/
def execOraIndY (a : Byte) (s : State) : Result :=
  advance 2#16 (accumulate oraByte (.mem (.indY a)) s)

/-- 12 ORA (a8),Z (R231, R93). -/
def execOraIndZ (a : Byte) (s : State) : Result :=
  advance 2#16 (accumulate oraByte (.mem (.indZ a)) s)

/-- 15 ORA a8,X (R231, R86). -/
def execOraBpX (a : Byte) (s : State) : Result :=
  advance 2#16 (accumulate oraByte (.mem (.bpX a)) s)

/-- 19 ORA a16,Y (R231, R90). -/
def execOraAbsY (a : Word) (s : State) : Result :=
  advance 3#16 (accumulate oraByte (.mem (.absY a)) s)

/-- 1D ORA a16,X (R231, R89). -/
def execOraAbsX (a : Word) (s : State) : Result :=
  advance 3#16 (accumulate oraByte (.mem (.absX a)) s)

/-- 41 EOR (a8,X) (R232, R91). -/
def execEorIndX (a : Byte) (s : State) : Result :=
  advance 2#16 (accumulate eorByte (.mem (.indX a)) s)

/-- 45 EOR a8 (R232, R84). -/
def execEorBp (a : Byte) (s : State) : Result :=
  advance 2#16 (accumulate eorByte (.mem (.bp a)) s)

/-- 49 EOR #d8 (R232, R82). -/
def execEorImm (d : Byte) (s : State) : Result :=
  advance 2#16 (accumulate eorByte (.imm d) s)

/-- 4D EOR a16 (R232, R85). -/
def execEorAbs (a : Word) (s : State) : Result :=
  advance 3#16 (accumulate eorByte (.mem (.abs a)) s)

/-- 51 EOR (a8),Y (R232, R92). -/
def execEorIndY (a : Byte) (s : State) : Result :=
  advance 2#16 (accumulate eorByte (.mem (.indY a)) s)

/-- 52 EOR (a8),Z (R232, R93). -/
def execEorIndZ (a : Byte) (s : State) : Result :=
  advance 2#16 (accumulate eorByte (.mem (.indZ a)) s)

/-- 55 EOR a8,X (R232, R86). -/
def execEorBpX (a : Byte) (s : State) : Result :=
  advance 2#16 (accumulate eorByte (.mem (.bpX a)) s)

/-- 59 EOR a16,Y (R232, R90). -/
def execEorAbsY (a : Word) (s : State) : Result :=
  advance 3#16 (accumulate eorByte (.mem (.absY a)) s)

/-- 5D EOR a16,X (R232, R89). -/
def execEorAbsX (a : Word) (s : State) : Result :=
  advance 3#16 (accumulate eorByte (.mem (.absX a)) s)

/-- 24 BIT a8 (R233, R84). -/
def execBitBp (a : Byte) (s : State) : Result :=
  advance 2#16 (testOperand bitMemFlags s.a (.mem (.bp a)) s)

/-- 2C BIT a16 (R233, R85). -/
def execBitAbs (a : Word) (s : State) : Result :=
  advance 3#16 (testOperand bitMemFlags s.a (.mem (.abs a)) s)

/-- 34 BIT a8,X (R233, R86). -/
def execBitBpX (a : Byte) (s : State) : Result :=
  advance 2#16 (testOperand bitMemFlags s.a (.mem (.bpX a)) s)

/-- 3C BIT a16,X (R233, R89). -/
def execBitAbsX (a : Word) (s : State) : Result :=
  advance 3#16 (testOperand bitMemFlags s.a (.mem (.absX a)) s)

/-- 89 BIT #d8 (R233, R82). -/
def execBitImm (d : Byte) (s : State) : Result :=
  advance 2#16 (testOperand bitImmFlags s.a (.imm d) s)

/-- 04 TSB a8 (R234, R84). -/
def execTsbBp (a : Byte) (s : State) : Result :=
  advance 2#16 (modify (tsbByte s.a) (.mem (.bp a)) s)

/-- 0C TSB a16 (R234, R85). -/
def execTsbAbs (a : Word) (s : State) : Result :=
  advance 3#16 (modify (tsbByte s.a) (.mem (.abs a)) s)

/-- 14 TRB a8 (R235, R84). -/
def execTrbBp (a : Byte) (s : State) : Result :=
  advance 2#16 (modify (trbByte s.a) (.mem (.bp a)) s)

/-- 1C TRB a16 (R235, R85). -/
def execTrbAbs (a : Word) (s : State) : Result :=
  advance 3#16 (modify (trbByte s.a) (.mem (.abs a)) s)

/-- 07 RMB0 a8 (R236, R84). -/
def execRmb0 (a : Byte) (s : State) : Result :=
  advance 2#16 (modify (resetBit 0) (.mem (.bp a)) s)

/-- 17 RMB1 a8 (R236, R84). -/
def execRmb1 (a : Byte) (s : State) : Result :=
  advance 2#16 (modify (resetBit 1) (.mem (.bp a)) s)

/-- 27 RMB2 a8 (R236, R84). -/
def execRmb2 (a : Byte) (s : State) : Result :=
  advance 2#16 (modify (resetBit 2) (.mem (.bp a)) s)

/-- 37 RMB3 a8 (R236, R84). -/
def execRmb3 (a : Byte) (s : State) : Result :=
  advance 2#16 (modify (resetBit 3) (.mem (.bp a)) s)

/-- 47 RMB4 a8 (R236, R84). -/
def execRmb4 (a : Byte) (s : State) : Result :=
  advance 2#16 (modify (resetBit 4) (.mem (.bp a)) s)

/-- 57 RMB5 a8 (R236, R84). -/
def execRmb5 (a : Byte) (s : State) : Result :=
  advance 2#16 (modify (resetBit 5) (.mem (.bp a)) s)

/-- 67 RMB6 a8 (R236, R84). -/
def execRmb6 (a : Byte) (s : State) : Result :=
  advance 2#16 (modify (resetBit 6) (.mem (.bp a)) s)

/-- 77 RMB7 a8 (R236, R84). -/
def execRmb7 (a : Byte) (s : State) : Result :=
  advance 2#16 (modify (resetBit 7) (.mem (.bp a)) s)

/-- 87 SMB0 a8 (R237, R84). -/
def execSmb0 (a : Byte) (s : State) : Result :=
  advance 2#16 (modify (setBit 0) (.mem (.bp a)) s)

/-- 97 SMB1 a8 (R237, R84). -/
def execSmb1 (a : Byte) (s : State) : Result :=
  advance 2#16 (modify (setBit 1) (.mem (.bp a)) s)

/-- A7 SMB2 a8 (R237, R84). -/
def execSmb2 (a : Byte) (s : State) : Result :=
  advance 2#16 (modify (setBit 2) (.mem (.bp a)) s)

/-- B7 SMB3 a8 (R237, R84). -/
def execSmb3 (a : Byte) (s : State) : Result :=
  advance 2#16 (modify (setBit 3) (.mem (.bp a)) s)

/-- C7 SMB4 a8 (R237, R84). -/
def execSmb4 (a : Byte) (s : State) : Result :=
  advance 2#16 (modify (setBit 4) (.mem (.bp a)) s)

/-- D7 SMB5 a8 (R237, R84). -/
def execSmb5 (a : Byte) (s : State) : Result :=
  advance 2#16 (modify (setBit 5) (.mem (.bp a)) s)

/-- E7 SMB6 a8 (R237, R84). -/
def execSmb6 (a : Byte) (s : State) : Result :=
  advance 2#16 (modify (setBit 6) (.mem (.bp a)) s)

/-- F7 SMB7 a8 (R237, R84). -/
def execSmb7 (a : Byte) (s : State) : Result :=
  advance 2#16 (modify (setBit 7) (.mem (.bp a)) s)

end Sys2Proof.Machine
end

