-- ==== Sys2Proof/Machine/Shift.lean ====
section
/-! DEFINITION. Shift and rotate (40_shift.md): one meaning for each opcode, in the order of its rules.
Each is one line over the shared operations of Flags, Ops and Operands. -/

namespace Sys2Proof.Machine

/-- 06 ASL a8 (R121, R84). -/
def execAslBp (a : Byte) (s : State) : Result :=
  advance 2#16 (modify aslByte (.mem (.bp a)) s)

/-- 0A ASL A (R121, R81). -/
def execAslA (s : State) : Result :=
  advance 1#16 (modify aslByte .acc s)

/-- 0E ASL a16 (R121, R85). -/
def execAslAbs (a : Word) (s : State) : Result :=
  advance 3#16 (modify aslByte (.mem (.abs a)) s)

/-- 16 ASL a8,X (R121, R86). -/
def execAslBpX (a : Byte) (s : State) : Result :=
  advance 2#16 (modify aslByte (.mem (.bpX a)) s)

/-- 1E ASL a16,X (R121, R89). -/
def execAslAbsX (a : Word) (s : State) : Result :=
  advance 3#16 (modify aslByte (.mem (.absX a)) s)

/-- 46 LSR a8 (R122, R84). -/
def execLsrBp (a : Byte) (s : State) : Result :=
  advance 2#16 (modify lsrByte (.mem (.bp a)) s)

/-- 4A LSR A (R122, R81). -/
def execLsrA (s : State) : Result :=
  advance 1#16 (modify lsrByte .acc s)

/-- 4E LSR a16 (R122, R85). -/
def execLsrAbs (a : Word) (s : State) : Result :=
  advance 3#16 (modify lsrByte (.mem (.abs a)) s)

/-- 56 LSR a8,X (R122, R86). -/
def execLsrBpX (a : Byte) (s : State) : Result :=
  advance 2#16 (modify lsrByte (.mem (.bpX a)) s)

/-- 5E LSR a16,X (R122, R89). -/
def execLsrAbsX (a : Word) (s : State) : Result :=
  advance 3#16 (modify lsrByte (.mem (.absX a)) s)

/-- 26 ROL a8 (R123, R84). -/
def execRolBp (a : Byte) (s : State) : Result :=
  advance 2#16 (modify rolByte (.mem (.bp a)) s)

/-- 2A ROL A (R123, R81). -/
def execRolA (s : State) : Result :=
  advance 1#16 (modify rolByte .acc s)

/-- 2E ROL a16 (R123, R85). -/
def execRolAbs (a : Word) (s : State) : Result :=
  advance 3#16 (modify rolByte (.mem (.abs a)) s)

/-- 36 ROL a8,X (R123, R86). -/
def execRolBpX (a : Byte) (s : State) : Result :=
  advance 2#16 (modify rolByte (.mem (.bpX a)) s)

/-- 3E ROL a16,X (R123, R89). -/
def execRolAbsX (a : Word) (s : State) : Result :=
  advance 3#16 (modify rolByte (.mem (.absX a)) s)

/-- 66 ROR a8 (R124, R84). -/
def execRorBp (a : Byte) (s : State) : Result :=
  advance 2#16 (modify rorByte (.mem (.bp a)) s)

/-- 6A ROR A (R124, R81). -/
def execRorA (s : State) : Result :=
  advance 1#16 (modify rorByte .acc s)

/-- 6E ROR a16 (R124, R85). -/
def execRorAbs (a : Word) (s : State) : Result :=
  advance 3#16 (modify rorByte (.mem (.abs a)) s)

/-- 76 ROR a8,X (R124, R86). -/
def execRorBpX (a : Byte) (s : State) : Result :=
  advance 2#16 (modify rorByte (.mem (.bpX a)) s)

/-- 7E ROR a16,X (R124, R89). -/
def execRorAbsX (a : Word) (s : State) : Result :=
  advance 3#16 (modify rorByte (.mem (.absX a)) s)

/-- 43 ASR A (R125, R81). -/
def execAsrA (s : State) : Result :=
  advance 1#16 (modify asrByte .acc s)

/-- 44 ASR a8 (R125, R84). -/
def execAsrBp (a : Byte) (s : State) : Result :=
  advance 2#16 (modify asrByte (.mem (.bp a)) s)

/-- 54 ASR a8,X (R125, R86). -/
def execAsrBpX (a : Byte) (s : State) : Result :=
  advance 2#16 (modify asrByte (.mem (.bpX a)) s)

/-- CB ASW a16 (R126, R85). -/
def execAsw (a : Word) (s : State) : Result :=
  advance 3#16 (modifyWord aslWord a (a + 1#16) s)

/-- EB ROW a16 (R127, R85). -/
def execRow (a : Word) (s : State) : Result :=
  advance 3#16 (modifyWord rolWord a (a + 1#16) s)

end Sys2Proof.Machine
end

