-- ==== Sys2Proof/Machine/Stack.lean ====
section
/-! DEFINITION. Push and pull (46_stack.md): one meaning for each opcode, in the order of its rules.
Each is one line over the shared operations of Flags, Ops and Operands. -/

namespace Sys2Proof.Machine

/-- 48 PHA (R200). -/
def execPha (s : State) : Result :=
  advance 1#16 (push s.a s)

/-- 08 PHP (R201). -/
def execPhp (s : State) : Result :=
  advance 1#16 (push (packP true s.p) s)

/-- DA PHX (R202). -/
def execPhx (s : State) : Result :=
  advance 1#16 (push s.x s)

/-- 5A PHY (R203). -/
def execPhy (s : State) : Result :=
  advance 1#16 (push s.y s)

/-- DB PHZ (R204). -/
def execPhz (s : State) : Result :=
  advance 1#16 (push s.z s)

/-- F4 PHW #d16 (R205, R83). -/
def execPhwImmWord (d : Word) (s : State) : Result :=
  advance 3#16 (pushOperandWord d s)

/-- FC PHW a16 (R205, R85). -/
def execPhwAbs (a : Word) (s : State) : Result :=
  advance 3#16 (do
    let w ← read16 2 a s
    pushOperandWord w s)

/-- 68 PLA (R206). -/
def execPla (s : State) : Result :=
  advance 1#16 (pullReg State.setA s)

/-- 28 PLP (R207). -/
def execPlp (s : State) : Result :=
  advance 1#16 (do
    let (v, s1) ← pull 0 s
    return s1.setP (unpackP v s1.p))

/-- FA PLX (R208). -/
def execPlx (s : State) : Result :=
  advance 1#16 (pullReg State.setX s)

/-- 7A PLY (R209). -/
def execPly (s : State) : Result :=
  advance 1#16 (pullReg State.setY s)

/-- FB PLZ (R210). -/
def execPlz (s : State) : Result :=
  advance 1#16 (pullReg State.setZ s)

end Sys2Proof.Machine
end

