-- ==== Sys2Proof/Machine/Transfer.lean ====
section
/-! DEFINITION. Register transfers (47_trans.md): one meaning for each opcode, in the order of its rules.
Each is one line over the shared operations of Flags, Ops and Operands. -/

namespace Sys2Proof.Machine

/-- AA TAX (R215). -/
def execTax (s : State) : Result :=
  advance 1#16 (transfer s.a State.setX s)

/-- A8 TAY (R216). -/
def execTay (s : State) : Result :=
  advance 1#16 (transfer s.a State.setY s)

/-- 8A TXA (R217). -/
def execTxa (s : State) : Result :=
  advance 1#16 (transfer s.x State.setA s)

/-- 98 TYA (R218). -/
def execTya (s : State) : Result :=
  advance 1#16 (transfer s.y State.setA s)

/-- BA TSX (R219). -/
def execTsx (s : State) : Result :=
  advance 1#16 (transfer (loByte s.sp) State.setX s)

/-- 9A TXS (R220). -/
def execTxs (s : State) : Result :=
  advance 1#16 (.ok (s.setSpLow s.x))

/-- 4B TAZ (R221). -/
def execTaz (s : State) : Result :=
  advance 1#16 (transfer s.a State.setZ s)

/-- 6B TZA (R222). -/
def execTza (s : State) : Result :=
  advance 1#16 (transfer s.z State.setA s)

/-- 5B TAB (R223). -/
def execTab (s : State) : Result :=
  advance 1#16 (.ok (s.setB s.a))

/-- 7B TBA (R224). -/
def execTba (s : State) : Result :=
  advance 1#16 (transfer s.b State.setA s)

/-- 0B TSY (R225). -/
def execTsy (s : State) : Result :=
  advance 1#16 (transfer (hiByte s.sp) State.setY s)

/-- 2B TYS (R226). -/
def execTys (s : State) : Result :=
  advance 1#16 (.ok (s.setSpHigh s.y))

end Sys2Proof.Machine
end

