-- ==== Sys2Proof/Syntax.lean ====
section
/-! DEFINITION. The instructions: one constructor for each of the 256 rows of the opcode map
(30_encoding.md R101, spec/opcode_table.json). A constructor is named by its mnemonic and, where the
mnemonic has several forms, by its operand form: A (R81), Imm (#d8, R82), ImmWord (#d16, R83), Bp (a8, R84),
Abs (a16, R85), BpX, BpY (R86, R87), AbsX, AbsY (R89, R90), AbsInd ((a16), R88), AbsXInd ((a16,X), R96),
IndX ((a8,X), R91), IndY ((a8),Y, R92), IndZ ((a8),Z, R93), SpIndY ((a8,S),Y, R94), R8 (R95), R16 (R97).
The bytes that BRK and AUG skip (R137, R138) are kept, so that no bit of an encoding is lost. The opcodes with
operand bytes stand first, then those of one byte, each in the order of the map: Lean's runtime takes at most
245 constructors that carry data. -/

namespace Sys2Proof

/-- An instruction with its operands. -/
inductive Instr where
  /-- 00 BRK (R138). -/
  | brk (skipped : Byte)
  /-- 01 ORA (a8,X) (R231). -/
  | oraIndX (a : Byte)
  /-- 04 TSB a8 (R234). -/
  | tsbBp (a : Byte)
  /-- 05 ORA a8 (R231). -/
  | oraBp (a : Byte)
  /-- 06 ASL a8 (R121). -/
  | aslBp (a : Byte)
  /-- 07 RMB0 a8 (R236). -/
  | rmb0 (a : Byte)
  /-- 09 ORA #d8 (R231). -/
  | oraImm (d : Byte)
  /-- 0C TSB a16 (R234). -/
  | tsbAbs (a : Word)
  /-- 0D ORA a16 (R231). -/
  | oraAbs (a : Word)
  /-- 0E ASL a16 (R121). -/
  | aslAbs (a : Word)
  /-- 0F BBR0 a8,r8 (R250). -/
  | bbr0 (a : Byte) (r : Byte)
  /-- 10 BPL r8 (R241). -/
  | bplR8 (r : Byte)
  /-- 11 ORA (a8),Y (R231). -/
  | oraIndY (a : Byte)
  /-- 12 ORA (a8),Z (R231). -/
  | oraIndZ (a : Byte)
  /-- 13 BPL r16 (R241). -/
  | bplR16 (r : Word)
  /-- 14 TRB a8 (R235). -/
  | trbBp (a : Byte)
  /-- 15 ORA a8,X (R231). -/
  | oraBpX (a : Byte)
  /-- 16 ASL a8,X (R121). -/
  | aslBpX (a : Byte)
  /-- 17 RMB1 a8 (R236). -/
  | rmb1 (a : Byte)
  /-- 19 ORA a16,Y (R231). -/
  | oraAbsY (a : Word)
  /-- 1C TRB a16 (R235). -/
  | trbAbs (a : Word)
  /-- 1D ORA a16,X (R231). -/
  | oraAbsX (a : Word)
  /-- 1E ASL a16,X (R121). -/
  | aslAbsX (a : Word)
  /-- 1F BBR1 a8,r8 (R250). -/
  | bbr1 (a : Byte) (r : Byte)
  /-- 20 JSR a16 (R131). -/
  | jsrAbs (a : Word)
  /-- 21 AND (a8,X) (R230). -/
  | andIndX (a : Byte)
  /-- 22 JSR (a16) (R131). -/
  | jsrAbsInd (a : Word)
  /-- 23 JSR (a16,X) (R131). -/
  | jsrAbsXInd (a : Word)
  /-- 24 BIT a8 (R233). -/
  | bitBp (a : Byte)
  /-- 25 AND a8 (R230). -/
  | andBp (a : Byte)
  /-- 26 ROL a8 (R123). -/
  | rolBp (a : Byte)
  /-- 27 RMB2 a8 (R236). -/
  | rmb2 (a : Byte)
  /-- 29 AND #d8 (R230). -/
  | andImm (d : Byte)
  /-- 2C BIT a16 (R233). -/
  | bitAbs (a : Word)
  /-- 2D AND a16 (R230). -/
  | andAbs (a : Word)
  /-- 2E ROL a16 (R123). -/
  | rolAbs (a : Word)
  /-- 2F BBR2 a8,r8 (R250). -/
  | bbr2 (a : Byte) (r : Byte)
  /-- 30 BMI r8 (R242). -/
  | bmiR8 (r : Byte)
  /-- 31 AND (a8),Y (R230). -/
  | andIndY (a : Byte)
  /-- 32 AND (a8),Z (R230). -/
  | andIndZ (a : Byte)
  /-- 33 BMI r16 (R242). -/
  | bmiR16 (r : Word)
  /-- 34 BIT a8,X (R233). -/
  | bitBpX (a : Byte)
  /-- 35 AND a8,X (R230). -/
  | andBpX (a : Byte)
  /-- 36 ROL a8,X (R123). -/
  | rolBpX (a : Byte)
  /-- 37 RMB3 a8 (R236). -/
  | rmb3 (a : Byte)
  /-- 39 AND a16,Y (R230). -/
  | andAbsY (a : Word)
  /-- 3C BIT a16,X (R233). -/
  | bitAbsX (a : Word)
  /-- 3D AND a16,X (R230). -/
  | andAbsX (a : Word)
  /-- 3E ROL a16,X (R123). -/
  | rolAbsX (a : Word)
  /-- 3F BBR3 a8,r8 (R250). -/
  | bbr3 (a : Byte) (r : Byte)
  /-- 41 EOR (a8,X) (R232). -/
  | eorIndX (a : Byte)
  /-- 44 ASR a8 (R125). -/
  | asrBp (a : Byte)
  /-- 45 EOR a8 (R232). -/
  | eorBp (a : Byte)
  /-- 46 LSR a8 (R122). -/
  | lsrBp (a : Byte)
  /-- 47 RMB4 a8 (R236). -/
  | rmb4 (a : Byte)
  /-- 49 EOR #d8 (R232). -/
  | eorImm (d : Byte)
  /-- 4C JMP a16 (R130). -/
  | jmpAbs (a : Word)
  /-- 4D EOR a16 (R232). -/
  | eorAbs (a : Word)
  /-- 4E LSR a16 (R122). -/
  | lsrAbs (a : Word)
  /-- 4F BBR4 a8,r8 (R250). -/
  | bbr4 (a : Byte) (r : Byte)
  /-- 50 BVC r8 (R243). -/
  | bvcR8 (r : Byte)
  /-- 51 EOR (a8),Y (R232). -/
  | eorIndY (a : Byte)
  /-- 52 EOR (a8),Z (R232). -/
  | eorIndZ (a : Byte)
  /-- 53 BVC r16 (R243). -/
  | bvcR16 (r : Word)
  /-- 54 ASR a8,X (R125). -/
  | asrBpX (a : Byte)
  /-- 55 EOR a8,X (R232). -/
  | eorBpX (a : Byte)
  /-- 56 LSR a8,X (R122). -/
  | lsrBpX (a : Byte)
  /-- 57 RMB5 a8 (R236). -/
  | rmb5 (a : Byte)
  /-- 59 EOR a16,Y (R232). -/
  | eorAbsY (a : Word)
  /-- 5C AUG (R137). -/
  | aug (b1 : Byte) (b2 : Byte) (b3 : Byte)
  /-- 5D EOR a16,X (R232). -/
  | eorAbsX (a : Word)
  /-- 5E LSR a16,X (R122). -/
  | lsrAbsX (a : Word)
  /-- 5F BBR5 a8,r8 (R250). -/
  | bbr5 (a : Byte) (r : Byte)
  /-- 61 ADC (a8,X) (R160). -/
  | adcIndX (a : Byte)
  /-- 62 RTN #d8 (R134). -/
  | rtn (d : Byte)
  /-- 63 BSR r16 (R132). -/
  | bsr (r : Word)
  /-- 64 STZ a8 (R192). -/
  | stzBp (a : Byte)
  /-- 65 ADC a8 (R160). -/
  | adcBp (a : Byte)
  /-- 66 ROR a8 (R124). -/
  | rorBp (a : Byte)
  /-- 67 RMB6 a8 (R236). -/
  | rmb6 (a : Byte)
  /-- 69 ADC #d8 (R160). -/
  | adcImm (d : Byte)
  /-- 6C JMP (a16) (R130). -/
  | jmpAbsInd (a : Word)
  /-- 6D ADC a16 (R160). -/
  | adcAbs (a : Word)
  /-- 6E ROR a16 (R124). -/
  | rorAbs (a : Word)
  /-- 6F BBR6 a8,r8 (R250). -/
  | bbr6 (a : Byte) (r : Byte)
  /-- 70 BVS r8 (R244). -/
  | bvsR8 (r : Byte)
  /-- 71 ADC (a8),Y (R160). -/
  | adcIndY (a : Byte)
  /-- 72 ADC (a8),Z (R160). -/
  | adcIndZ (a : Byte)
  /-- 73 BVS r16 (R244). -/
  | bvsR16 (r : Word)
  /-- 74 STZ a8,X (R192). -/
  | stzBpX (a : Byte)
  /-- 75 ADC a8,X (R160). -/
  | adcBpX (a : Byte)
  /-- 76 ROR a8,X (R124). -/
  | rorBpX (a : Byte)
  /-- 77 RMB7 a8 (R236). -/
  | rmb7 (a : Byte)
  /-- 79 ADC a16,Y (R160). -/
  | adcAbsY (a : Word)
  /-- 7C JMP (a16,X) (R130). -/
  | jmpAbsXInd (a : Word)
  /-- 7D ADC a16,X (R160). -/
  | adcAbsX (a : Word)
  /-- 7E ROR a16,X (R124). -/
  | rorAbsX (a : Word)
  /-- 7F BBR7 a8,r8 (R250). -/
  | bbr7 (a : Byte) (r : Byte)
  /-- 80 BRA r8 (R249). -/
  | braR8 (r : Byte)
  /-- 81 STA (a8,X) (R189). -/
  | staIndX (a : Byte)
  /-- 82 STA (a8,S),Y (R189). -/
  | staSpIndY (d : Byte)
  /-- 83 BRA r16 (R249). -/
  | braR16 (r : Word)
  /-- 84 STY a8 (R191). -/
  | styBp (a : Byte)
  /-- 85 STA a8 (R189). -/
  | staBp (a : Byte)
  /-- 86 STX a8 (R190). -/
  | stxBp (a : Byte)
  /-- 87 SMB0 a8 (R237). -/
  | smb0 (a : Byte)
  /-- 89 BIT #d8 (R233). -/
  | bitImm (d : Byte)
  /-- 8B STY a16,X (R191). -/
  | styAbsX (a : Word)
  /-- 8C STY a16 (R191). -/
  | styAbs (a : Word)
  /-- 8D STA a16 (R189). -/
  | staAbs (a : Word)
  /-- 8E STX a16 (R190). -/
  | stxAbs (a : Word)
  /-- 8F BBS0 a8,r8 (R251). -/
  | bbs0 (a : Byte) (r : Byte)
  /-- 90 BCC r8 (R245). -/
  | bccR8 (r : Byte)
  /-- 91 STA (a8),Y (R189). -/
  | staIndY (a : Byte)
  /-- 92 STA (a8),Z (R189). -/
  | staIndZ (a : Byte)
  /-- 93 BCC r16 (R245). -/
  | bccR16 (r : Word)
  /-- 94 STY a8,X (R191). -/
  | styBpX (a : Byte)
  /-- 95 STA a8,X (R189). -/
  | staBpX (a : Byte)
  /-- 96 STX a8,Y (R190). -/
  | stxBpY (a : Byte)
  /-- 97 SMB1 a8 (R237). -/
  | smb1 (a : Byte)
  /-- 99 STA a16,Y (R189). -/
  | staAbsY (a : Word)
  /-- 9B STX a16,Y (R190). -/
  | stxAbsY (a : Word)
  /-- 9C STZ a16 (R192). -/
  | stzAbs (a : Word)
  /-- 9D STA a16,X (R189). -/
  | staAbsX (a : Word)
  /-- 9E STZ a16,X (R192). -/
  | stzAbsX (a : Word)
  /-- 9F BBS1 a8,r8 (R251). -/
  | bbs1 (a : Byte) (r : Byte)
  /-- A0 LDY #d8 (R187). -/
  | ldyImm (d : Byte)
  /-- A1 LDA (a8,X) (R185). -/
  | ldaIndX (a : Byte)
  /-- A2 LDX #d8 (R186). -/
  | ldxImm (d : Byte)
  /-- A3 LDZ #d8 (R188). -/
  | ldzImm (d : Byte)
  /-- A4 LDY a8 (R187). -/
  | ldyBp (a : Byte)
  /-- A5 LDA a8 (R185). -/
  | ldaBp (a : Byte)
  /-- A6 LDX a8 (R186). -/
  | ldxBp (a : Byte)
  /-- A7 SMB2 a8 (R237). -/
  | smb2 (a : Byte)
  /-- A9 LDA #d8 (R185). -/
  | ldaImm (d : Byte)
  /-- AB LDZ a16 (R188). -/
  | ldzAbs (a : Word)
  /-- AC LDY a16 (R187). -/
  | ldyAbs (a : Word)
  /-- AD LDA a16 (R185). -/
  | ldaAbs (a : Word)
  /-- AE LDX a16 (R186). -/
  | ldxAbs (a : Word)
  /-- AF BBS2 a8,r8 (R251). -/
  | bbs2 (a : Byte) (r : Byte)
  /-- B0 BCS r8 (R246). -/
  | bcsR8 (r : Byte)
  /-- B1 LDA (a8),Y (R185). -/
  | ldaIndY (a : Byte)
  /-- B2 LDA (a8),Z (R185). -/
  | ldaIndZ (a : Byte)
  /-- B3 BCS r16 (R246). -/
  | bcsR16 (r : Word)
  /-- B4 LDY a8,X (R187). -/
  | ldyBpX (a : Byte)
  /-- B5 LDA a8,X (R185). -/
  | ldaBpX (a : Byte)
  /-- B6 LDX a8,Y (R186). -/
  | ldxBpY (a : Byte)
  /-- B7 SMB3 a8 (R237). -/
  | smb3 (a : Byte)
  /-- B9 LDA a16,Y (R185). -/
  | ldaAbsY (a : Word)
  /-- BB LDZ a16,X (R188). -/
  | ldzAbsX (a : Word)
  /-- BC LDY a16,X (R187). -/
  | ldyAbsX (a : Word)
  /-- BD LDA a16,X (R185). -/
  | ldaAbsX (a : Word)
  /-- BE LDX a16,Y (R186). -/
  | ldxAbsY (a : Word)
  /-- BF BBS3 a8,r8 (R251). -/
  | bbs3 (a : Byte) (r : Byte)
  /-- C0 CPY #d8 (R164). -/
  | cpyImm (d : Byte)
  /-- C1 CMP (a8,X) (R162). -/
  | cmpIndX (a : Byte)
  /-- C2 CPZ #d8 (R165). -/
  | cpzImm (d : Byte)
  /-- C3 DEW a8 (R179). -/
  | dew (a : Byte)
  /-- C4 CPY a8 (R164). -/
  | cpyBp (a : Byte)
  /-- C5 CMP a8 (R162). -/
  | cmpBp (a : Byte)
  /-- C6 DEC a8 (R171). -/
  | decBp (a : Byte)
  /-- C7 SMB4 a8 (R237). -/
  | smb4 (a : Byte)
  /-- C9 CMP #d8 (R162). -/
  | cmpImm (d : Byte)
  /-- CB ASW a16 (R126). -/
  | asw (a : Word)
  /-- CC CPY a16 (R164). -/
  | cpyAbs (a : Word)
  /-- CD CMP a16 (R162). -/
  | cmpAbs (a : Word)
  /-- CE DEC a16 (R171). -/
  | decAbs (a : Word)
  /-- CF BBS4 a8,r8 (R251). -/
  | bbs4 (a : Byte) (r : Byte)
  /-- D0 BNE r8 (R247). -/
  | bneR8 (r : Byte)
  /-- D1 CMP (a8),Y (R162). -/
  | cmpIndY (a : Byte)
  /-- D2 CMP (a8),Z (R162). -/
  | cmpIndZ (a : Byte)
  /-- D3 BNE r16 (R247). -/
  | bneR16 (r : Word)
  /-- D4 CPZ a8 (R165). -/
  | cpzBp (a : Byte)
  /-- D5 CMP a8,X (R162). -/
  | cmpBpX (a : Byte)
  /-- D6 DEC a8,X (R171). -/
  | decBpX (a : Byte)
  /-- D7 SMB5 a8 (R237). -/
  | smb5 (a : Byte)
  /-- D9 CMP a16,Y (R162). -/
  | cmpAbsY (a : Word)
  /-- DC CPZ a16 (R165). -/
  | cpzAbs (a : Word)
  /-- DD CMP a16,X (R162). -/
  | cmpAbsX (a : Word)
  /-- DE DEC a16,X (R171). -/
  | decAbsX (a : Word)
  /-- DF BBS5 a8,r8 (R251). -/
  | bbs5 (a : Byte) (r : Byte)
  /-- E0 CPX #d8 (R163). -/
  | cpxImm (d : Byte)
  /-- E1 SBC (a8,X) (R161). -/
  | sbcIndX (a : Byte)
  /-- E2 LDA (a8,S),Y (R185). -/
  | ldaSpIndY (d : Byte)
  /-- E3 INW a8 (R178). -/
  | inw (a : Byte)
  /-- E4 CPX a8 (R163). -/
  | cpxBp (a : Byte)
  /-- E5 SBC a8 (R161). -/
  | sbcBp (a : Byte)
  /-- E6 INC a8 (R170). -/
  | incBp (a : Byte)
  /-- E7 SMB6 a8 (R237). -/
  | smb6 (a : Byte)
  /-- E9 SBC #d8 (R161). -/
  | sbcImm (d : Byte)
  /-- EB ROW a16 (R127). -/
  | row (a : Word)
  /-- EC CPX a16 (R163). -/
  | cpxAbs (a : Word)
  /-- ED SBC a16 (R161). -/
  | sbcAbs (a : Word)
  /-- EE INC a16 (R170). -/
  | incAbs (a : Word)
  /-- EF BBS6 a8,r8 (R251). -/
  | bbs6 (a : Byte) (r : Byte)
  /-- F0 BEQ r8 (R248). -/
  | beqR8 (r : Byte)
  /-- F1 SBC (a8),Y (R161). -/
  | sbcIndY (a : Byte)
  /-- F2 SBC (a8),Z (R161). -/
  | sbcIndZ (a : Byte)
  /-- F3 BEQ r16 (R248). -/
  | beqR16 (r : Word)
  /-- F4 PHW #d16 (R205). -/
  | phwImmWord (d : Word)
  /-- F5 SBC a8,X (R161). -/
  | sbcBpX (a : Byte)
  /-- F6 INC a8,X (R170). -/
  | incBpX (a : Byte)
  /-- F7 SMB7 a8 (R237). -/
  | smb7 (a : Byte)
  /-- F9 SBC a16,Y (R161). -/
  | sbcAbsY (a : Word)
  /-- FC PHW a16 (R205). -/
  | phwAbs (a : Word)
  /-- FD SBC a16,X (R161). -/
  | sbcAbsX (a : Word)
  /-- FE INC a16,X (R170). -/
  | incAbsX (a : Word)
  /-- FF BBS7 a8,r8 (R251). -/
  | bbs7 (a : Byte) (r : Byte)
  /-- 02 CLE (R152). -/
  | cle
  /-- 03 SEE (R153). -/
  | see
  /-- 08 PHP (R201). -/
  | php
  /-- 0A ASL A (R121). -/
  | aslA
  /-- 0B TSY (R225). -/
  | tsy
  /-- 18 CLC (R145). -/
  | clc
  /-- 1A INC A (R170). -/
  | incA
  /-- 1B INZ (R174). -/
  | inz
  /-- 28 PLP (R207). -/
  | plp
  /-- 2A ROL A (R123). -/
  | rolA
  /-- 2B TYS (R226). -/
  | tys
  /-- 38 SEC (R146). -/
  | sec
  /-- 3A DEC A (R171). -/
  | decA
  /-- 3B DEZ (R177). -/
  | dez
  /-- 40 RTI (R135). -/
  | rti
  /-- 42 NEG A (R166). -/
  | neg
  /-- 43 ASR A (R125). -/
  | asrA
  /-- 48 PHA (R200). -/
  | pha
  /-- 4A LSR A (R122). -/
  | lsrA
  /-- 4B TAZ (R221). -/
  | taz
  /-- 58 CLI (R149). -/
  | cli
  /-- 5A PHY (R203). -/
  | phy
  /-- 5B TAB (R223). -/
  | tab
  /-- 60 RTS (R133). -/
  | rts
  /-- 68 PLA (R206). -/
  | pla
  /-- 6A ROR A (R124). -/
  | rorA
  /-- 6B TZA (R222). -/
  | tza
  /-- 78 SEI (R150). -/
  | sei
  /-- 7A PLY (R209). -/
  | ply
  /-- 7B TBA (R224). -/
  | tba
  /-- 88 DEY (R176). -/
  | dey
  /-- 8A TXA (R217). -/
  | txa
  /-- 98 TYA (R218). -/
  | tya
  /-- 9A TXS (R220). -/
  | txs
  /-- A8 TAY (R216). -/
  | tay
  /-- AA TAX (R215). -/
  | tax
  /-- B8 CLV (R151). -/
  | clv
  /-- BA TSX (R219). -/
  | tsx
  /-- C8 INY (R173). -/
  | iny
  /-- CA DEX (R175). -/
  | dex
  /-- D8 CLD (R147). -/
  | cld
  /-- DA PHX (R202). -/
  | phx
  /-- DB PHZ (R204). -/
  | phz
  /-- E8 INX (R172). -/
  | inx
  /-- EA NOP (R136). -/
  | nop
  /-- F8 SED (R148). -/
  | sed
  /-- FA PLX (R208). -/
  | plx
  /-- FB PLZ (R210). -/
  | plz
deriving DecidableEq, Repr

end Sys2Proof
end

