-- ==== Sys2Proof/Machine/Dispatch.lean ====
section
/-! DEFINITION. One arm per constructor of Instr, each one direct call of its meaning. -/

namespace Sys2Proof.Machine

def exec (i : Instr) (s : State) : Host.Outcome State Fault Refusal :=
  match i with
  | .brk skipped => Sys2Proof.Machine.execBrk skipped s
  | .oraIndX a => Sys2Proof.Machine.execOraIndX a s
  | .cle => Sys2Proof.Machine.execCle s
  | .see => Sys2Proof.Machine.execSee s
  | .tsbBp a => Sys2Proof.Machine.execTsbBp a s
  | .oraBp a => Sys2Proof.Machine.execOraBp a s
  | .aslBp a => Sys2Proof.Machine.execAslBp a s
  | .rmb0 a => Sys2Proof.Machine.execRmb0 a s
  | .php => Sys2Proof.Machine.execPhp s
  | .oraImm d => Sys2Proof.Machine.execOraImm d s
  | .aslA => Sys2Proof.Machine.execAslA s
  | .tsy => Sys2Proof.Machine.execTsy s
  | .tsbAbs a => Sys2Proof.Machine.execTsbAbs a s
  | .oraAbs a => Sys2Proof.Machine.execOraAbs a s
  | .aslAbs a => Sys2Proof.Machine.execAslAbs a s
  | .bbr0 a r => Sys2Proof.Machine.execBbr0 a r s
  | .bplR8 r => Sys2Proof.Machine.execBplR8 r s
  | .oraIndY a => Sys2Proof.Machine.execOraIndY a s
  | .oraIndZ a => Sys2Proof.Machine.execOraIndZ a s
  | .bplR16 r => Sys2Proof.Machine.execBplR16 r s
  | .trbBp a => Sys2Proof.Machine.execTrbBp a s
  | .oraBpX a => Sys2Proof.Machine.execOraBpX a s
  | .aslBpX a => Sys2Proof.Machine.execAslBpX a s
  | .rmb1 a => Sys2Proof.Machine.execRmb1 a s
  | .clc => Sys2Proof.Machine.execClc s
  | .oraAbsY a => Sys2Proof.Machine.execOraAbsY a s
  | .incA => Sys2Proof.Machine.execIncA s
  | .inz => Sys2Proof.Machine.execInz s
  | .trbAbs a => Sys2Proof.Machine.execTrbAbs a s
  | .oraAbsX a => Sys2Proof.Machine.execOraAbsX a s
  | .aslAbsX a => Sys2Proof.Machine.execAslAbsX a s
  | .bbr1 a r => Sys2Proof.Machine.execBbr1 a r s
  | .jsrAbs a => Sys2Proof.Machine.execJsrAbs a s
  | .andIndX a => Sys2Proof.Machine.execAndIndX a s
  | .jsrAbsInd a => Sys2Proof.Machine.execJsrAbsInd a s
  | .jsrAbsXInd a => Sys2Proof.Machine.execJsrAbsXInd a s
  | .bitBp a => Sys2Proof.Machine.execBitBp a s
  | .andBp a => Sys2Proof.Machine.execAndBp a s
  | .rolBp a => Sys2Proof.Machine.execRolBp a s
  | .rmb2 a => Sys2Proof.Machine.execRmb2 a s
  | .plp => Sys2Proof.Machine.execPlp s
  | .andImm d => Sys2Proof.Machine.execAndImm d s
  | .rolA => Sys2Proof.Machine.execRolA s
  | .tys => Sys2Proof.Machine.execTys s
  | .bitAbs a => Sys2Proof.Machine.execBitAbs a s
  | .andAbs a => Sys2Proof.Machine.execAndAbs a s
  | .rolAbs a => Sys2Proof.Machine.execRolAbs a s
  | .bbr2 a r => Sys2Proof.Machine.execBbr2 a r s
  | .bmiR8 r => Sys2Proof.Machine.execBmiR8 r s
  | .andIndY a => Sys2Proof.Machine.execAndIndY a s
  | .andIndZ a => Sys2Proof.Machine.execAndIndZ a s
  | .bmiR16 r => Sys2Proof.Machine.execBmiR16 r s
  | .bitBpX a => Sys2Proof.Machine.execBitBpX a s
  | .andBpX a => Sys2Proof.Machine.execAndBpX a s
  | .rolBpX a => Sys2Proof.Machine.execRolBpX a s
  | .rmb3 a => Sys2Proof.Machine.execRmb3 a s
  | .sec => Sys2Proof.Machine.execSec s
  | .andAbsY a => Sys2Proof.Machine.execAndAbsY a s
  | .decA => Sys2Proof.Machine.execDecA s
  | .dez => Sys2Proof.Machine.execDez s
  | .bitAbsX a => Sys2Proof.Machine.execBitAbsX a s
  | .andAbsX a => Sys2Proof.Machine.execAndAbsX a s
  | .rolAbsX a => Sys2Proof.Machine.execRolAbsX a s
  | .bbr3 a r => Sys2Proof.Machine.execBbr3 a r s
  | .rti => Sys2Proof.Machine.execRti s
  | .eorIndX a => Sys2Proof.Machine.execEorIndX a s
  | .neg => Sys2Proof.Machine.execNeg s
  | .asrA => Sys2Proof.Machine.execAsrA s
  | .asrBp a => Sys2Proof.Machine.execAsrBp a s
  | .eorBp a => Sys2Proof.Machine.execEorBp a s
  | .lsrBp a => Sys2Proof.Machine.execLsrBp a s
  | .rmb4 a => Sys2Proof.Machine.execRmb4 a s
  | .pha => Sys2Proof.Machine.execPha s
  | .eorImm d => Sys2Proof.Machine.execEorImm d s
  | .lsrA => Sys2Proof.Machine.execLsrA s
  | .taz => Sys2Proof.Machine.execTaz s
  | .jmpAbs a => Sys2Proof.Machine.execJmpAbs a s
  | .eorAbs a => Sys2Proof.Machine.execEorAbs a s
  | .lsrAbs a => Sys2Proof.Machine.execLsrAbs a s
  | .bbr4 a r => Sys2Proof.Machine.execBbr4 a r s
  | .bvcR8 r => Sys2Proof.Machine.execBvcR8 r s
  | .eorIndY a => Sys2Proof.Machine.execEorIndY a s
  | .eorIndZ a => Sys2Proof.Machine.execEorIndZ a s
  | .bvcR16 r => Sys2Proof.Machine.execBvcR16 r s
  | .asrBpX a => Sys2Proof.Machine.execAsrBpX a s
  | .eorBpX a => Sys2Proof.Machine.execEorBpX a s
  | .lsrBpX a => Sys2Proof.Machine.execLsrBpX a s
  | .rmb5 a => Sys2Proof.Machine.execRmb5 a s
  | .cli => Sys2Proof.Machine.execCli s
  | .eorAbsY a => Sys2Proof.Machine.execEorAbsY a s
  | .phy => Sys2Proof.Machine.execPhy s
  | .tab => Sys2Proof.Machine.execTab s
  | .aug b1 b2 b3 => Sys2Proof.Machine.execAug b1 b2 b3 s
  | .eorAbsX a => Sys2Proof.Machine.execEorAbsX a s
  | .lsrAbsX a => Sys2Proof.Machine.execLsrAbsX a s
  | .bbr5 a r => Sys2Proof.Machine.execBbr5 a r s
  | .rts => Sys2Proof.Machine.execRts s
  | .adcIndX a => Sys2Proof.Machine.execAdcIndX a s
  | .rtn d => Sys2Proof.Machine.execRtn d s
  | .bsr r => Sys2Proof.Machine.execBsr r s
  | .stzBp a => Sys2Proof.Machine.execStzBp a s
  | .adcBp a => Sys2Proof.Machine.execAdcBp a s
  | .rorBp a => Sys2Proof.Machine.execRorBp a s
  | .rmb6 a => Sys2Proof.Machine.execRmb6 a s
  | .pla => Sys2Proof.Machine.execPla s
  | .adcImm d => Sys2Proof.Machine.execAdcImm d s
  | .rorA => Sys2Proof.Machine.execRorA s
  | .tza => Sys2Proof.Machine.execTza s
  | .jmpAbsInd a => Sys2Proof.Machine.execJmpAbsInd a s
  | .adcAbs a => Sys2Proof.Machine.execAdcAbs a s
  | .rorAbs a => Sys2Proof.Machine.execRorAbs a s
  | .bbr6 a r => Sys2Proof.Machine.execBbr6 a r s
  | .bvsR8 r => Sys2Proof.Machine.execBvsR8 r s
  | .adcIndY a => Sys2Proof.Machine.execAdcIndY a s
  | .adcIndZ a => Sys2Proof.Machine.execAdcIndZ a s
  | .bvsR16 r => Sys2Proof.Machine.execBvsR16 r s
  | .stzBpX a => Sys2Proof.Machine.execStzBpX a s
  | .adcBpX a => Sys2Proof.Machine.execAdcBpX a s
  | .rorBpX a => Sys2Proof.Machine.execRorBpX a s
  | .rmb7 a => Sys2Proof.Machine.execRmb7 a s
  | .sei => Sys2Proof.Machine.execSei s
  | .adcAbsY a => Sys2Proof.Machine.execAdcAbsY a s
  | .ply => Sys2Proof.Machine.execPly s
  | .tba => Sys2Proof.Machine.execTba s
  | .jmpAbsXInd a => Sys2Proof.Machine.execJmpAbsXInd a s
  | .adcAbsX a => Sys2Proof.Machine.execAdcAbsX a s
  | .rorAbsX a => Sys2Proof.Machine.execRorAbsX a s
  | .bbr7 a r => Sys2Proof.Machine.execBbr7 a r s
  | .braR8 r => Sys2Proof.Machine.execBraR8 r s
  | .staIndX a => Sys2Proof.Machine.execStaIndX a s
  | .staSpIndY d => Sys2Proof.Machine.execStaSpIndY d s
  | .braR16 r => Sys2Proof.Machine.execBraR16 r s
  | .styBp a => Sys2Proof.Machine.execStyBp a s
  | .staBp a => Sys2Proof.Machine.execStaBp a s
  | .stxBp a => Sys2Proof.Machine.execStxBp a s
  | .smb0 a => Sys2Proof.Machine.execSmb0 a s
  | .dey => Sys2Proof.Machine.execDey s
  | .bitImm d => Sys2Proof.Machine.execBitImm d s
  | .txa => Sys2Proof.Machine.execTxa s
  | .styAbsX a => Sys2Proof.Machine.execStyAbsX a s
  | .styAbs a => Sys2Proof.Machine.execStyAbs a s
  | .staAbs a => Sys2Proof.Machine.execStaAbs a s
  | .stxAbs a => Sys2Proof.Machine.execStxAbs a s
  | .bbs0 a r => Sys2Proof.Machine.execBbs0 a r s
  | .bccR8 r => Sys2Proof.Machine.execBccR8 r s
  | .staIndY a => Sys2Proof.Machine.execStaIndY a s
  | .staIndZ a => Sys2Proof.Machine.execStaIndZ a s
  | .bccR16 r => Sys2Proof.Machine.execBccR16 r s
  | .styBpX a => Sys2Proof.Machine.execStyBpX a s
  | .staBpX a => Sys2Proof.Machine.execStaBpX a s
  | .stxBpY a => Sys2Proof.Machine.execStxBpY a s
  | .smb1 a => Sys2Proof.Machine.execSmb1 a s
  | .tya => Sys2Proof.Machine.execTya s
  | .staAbsY a => Sys2Proof.Machine.execStaAbsY a s
  | .txs => Sys2Proof.Machine.execTxs s
  | .stxAbsY a => Sys2Proof.Machine.execStxAbsY a s
  | .stzAbs a => Sys2Proof.Machine.execStzAbs a s
  | .staAbsX a => Sys2Proof.Machine.execStaAbsX a s
  | .stzAbsX a => Sys2Proof.Machine.execStzAbsX a s
  | .bbs1 a r => Sys2Proof.Machine.execBbs1 a r s
  | .ldyImm d => Sys2Proof.Machine.execLdyImm d s
  | .ldaIndX a => Sys2Proof.Machine.execLdaIndX a s
  | .ldxImm d => Sys2Proof.Machine.execLdxImm d s
  | .ldzImm d => Sys2Proof.Machine.execLdzImm d s
  | .ldyBp a => Sys2Proof.Machine.execLdyBp a s
  | .ldaBp a => Sys2Proof.Machine.execLdaBp a s
  | .ldxBp a => Sys2Proof.Machine.execLdxBp a s
  | .smb2 a => Sys2Proof.Machine.execSmb2 a s
  | .tay => Sys2Proof.Machine.execTay s
  | .ldaImm d => Sys2Proof.Machine.execLdaImm d s
  | .tax => Sys2Proof.Machine.execTax s
  | .ldzAbs a => Sys2Proof.Machine.execLdzAbs a s
  | .ldyAbs a => Sys2Proof.Machine.execLdyAbs a s
  | .ldaAbs a => Sys2Proof.Machine.execLdaAbs a s
  | .ldxAbs a => Sys2Proof.Machine.execLdxAbs a s
  | .bbs2 a r => Sys2Proof.Machine.execBbs2 a r s
  | .bcsR8 r => Sys2Proof.Machine.execBcsR8 r s
  | .ldaIndY a => Sys2Proof.Machine.execLdaIndY a s
  | .ldaIndZ a => Sys2Proof.Machine.execLdaIndZ a s
  | .bcsR16 r => Sys2Proof.Machine.execBcsR16 r s
  | .ldyBpX a => Sys2Proof.Machine.execLdyBpX a s
  | .ldaBpX a => Sys2Proof.Machine.execLdaBpX a s
  | .ldxBpY a => Sys2Proof.Machine.execLdxBpY a s
  | .smb3 a => Sys2Proof.Machine.execSmb3 a s
  | .clv => Sys2Proof.Machine.execClv s
  | .ldaAbsY a => Sys2Proof.Machine.execLdaAbsY a s
  | .tsx => Sys2Proof.Machine.execTsx s
  | .ldzAbsX a => Sys2Proof.Machine.execLdzAbsX a s
  | .ldyAbsX a => Sys2Proof.Machine.execLdyAbsX a s
  | .ldaAbsX a => Sys2Proof.Machine.execLdaAbsX a s
  | .ldxAbsY a => Sys2Proof.Machine.execLdxAbsY a s
  | .bbs3 a r => Sys2Proof.Machine.execBbs3 a r s
  | .cpyImm d => Sys2Proof.Machine.execCpyImm d s
  | .cmpIndX a => Sys2Proof.Machine.execCmpIndX a s
  | .cpzImm d => Sys2Proof.Machine.execCpzImm d s
  | .dew a => Sys2Proof.Machine.execDew a s
  | .cpyBp a => Sys2Proof.Machine.execCpyBp a s
  | .cmpBp a => Sys2Proof.Machine.execCmpBp a s
  | .decBp a => Sys2Proof.Machine.execDecBp a s
  | .smb4 a => Sys2Proof.Machine.execSmb4 a s
  | .iny => Sys2Proof.Machine.execIny s
  | .cmpImm d => Sys2Proof.Machine.execCmpImm d s
  | .dex => Sys2Proof.Machine.execDex s
  | .asw a => Sys2Proof.Machine.execAsw a s
  | .cpyAbs a => Sys2Proof.Machine.execCpyAbs a s
  | .cmpAbs a => Sys2Proof.Machine.execCmpAbs a s
  | .decAbs a => Sys2Proof.Machine.execDecAbs a s
  | .bbs4 a r => Sys2Proof.Machine.execBbs4 a r s
  | .bneR8 r => Sys2Proof.Machine.execBneR8 r s
  | .cmpIndY a => Sys2Proof.Machine.execCmpIndY a s
  | .cmpIndZ a => Sys2Proof.Machine.execCmpIndZ a s
  | .bneR16 r => Sys2Proof.Machine.execBneR16 r s
  | .cpzBp a => Sys2Proof.Machine.execCpzBp a s
  | .cmpBpX a => Sys2Proof.Machine.execCmpBpX a s
  | .decBpX a => Sys2Proof.Machine.execDecBpX a s
  | .smb5 a => Sys2Proof.Machine.execSmb5 a s
  | .cld => Sys2Proof.Machine.execCld s
  | .cmpAbsY a => Sys2Proof.Machine.execCmpAbsY a s
  | .phx => Sys2Proof.Machine.execPhx s
  | .phz => Sys2Proof.Machine.execPhz s
  | .cpzAbs a => Sys2Proof.Machine.execCpzAbs a s
  | .cmpAbsX a => Sys2Proof.Machine.execCmpAbsX a s
  | .decAbsX a => Sys2Proof.Machine.execDecAbsX a s
  | .bbs5 a r => Sys2Proof.Machine.execBbs5 a r s
  | .cpxImm d => Sys2Proof.Machine.execCpxImm d s
  | .sbcIndX a => Sys2Proof.Machine.execSbcIndX a s
  | .ldaSpIndY d => Sys2Proof.Machine.execLdaSpIndY d s
  | .inw a => Sys2Proof.Machine.execInw a s
  | .cpxBp a => Sys2Proof.Machine.execCpxBp a s
  | .sbcBp a => Sys2Proof.Machine.execSbcBp a s
  | .incBp a => Sys2Proof.Machine.execIncBp a s
  | .smb6 a => Sys2Proof.Machine.execSmb6 a s
  | .inx => Sys2Proof.Machine.execInx s
  | .sbcImm d => Sys2Proof.Machine.execSbcImm d s
  | .nop => Sys2Proof.Machine.execNop s
  | .row a => Sys2Proof.Machine.execRow a s
  | .cpxAbs a => Sys2Proof.Machine.execCpxAbs a s
  | .sbcAbs a => Sys2Proof.Machine.execSbcAbs a s
  | .incAbs a => Sys2Proof.Machine.execIncAbs a s
  | .bbs6 a r => Sys2Proof.Machine.execBbs6 a r s
  | .beqR8 r => Sys2Proof.Machine.execBeqR8 r s
  | .sbcIndY a => Sys2Proof.Machine.execSbcIndY a s
  | .sbcIndZ a => Sys2Proof.Machine.execSbcIndZ a s
  | .beqR16 r => Sys2Proof.Machine.execBeqR16 r s
  | .phwImmWord d => Sys2Proof.Machine.execPhwImmWord d s
  | .sbcBpX a => Sys2Proof.Machine.execSbcBpX a s
  | .incBpX a => Sys2Proof.Machine.execIncBpX a s
  | .smb7 a => Sys2Proof.Machine.execSmb7 a s
  | .sed => Sys2Proof.Machine.execSed s
  | .sbcAbsY a => Sys2Proof.Machine.execSbcAbsY a s
  | .plx => Sys2Proof.Machine.execPlx s
  | .plz => Sys2Proof.Machine.execPlz s
  | .phwAbs a => Sys2Proof.Machine.execPhwAbs a s
  | .sbcAbsX a => Sys2Proof.Machine.execSbcAbsX a s
  | .incAbsX a => Sys2Proof.Machine.execIncAbsX a s
  | .bbs7 a r => Sys2Proof.Machine.execBbs7 a r s

end Sys2Proof.Machine
end

