-- ==== Sys2Proof/WellFormed.lean ====
section
/-! DEFINITION. Which instructions and which byte sequences are well formed (30_encoding.md R70, R71, R100).
The length table is the source's own list of 256 lengths (R71), written down apart from the opcode map
(R101) that the decoder follows: that the two agree is a theorem, not a definition. -/

namespace Sys2Proof

/-- Instruction length in bytes by opcode, rows 0x to 7x (R71). -/
def lengthTableLow : List Nat :=
  [2, 2, 1, 1, 2, 2, 2, 2, 1, 2, 1, 1, 3, 3, 3, 3,
   2, 2, 2, 3, 2, 2, 2, 2, 1, 3, 1, 1, 3, 3, 3, 3,
   3, 2, 3, 3, 2, 2, 2, 2, 1, 2, 1, 1, 3, 3, 3, 3,
   2, 2, 2, 3, 2, 2, 2, 2, 1, 3, 1, 1, 3, 3, 3, 3,
   1, 2, 1, 1, 2, 2, 2, 2, 1, 2, 1, 1, 3, 3, 3, 3,
   2, 2, 2, 3, 2, 2, 2, 2, 1, 3, 1, 1, 4, 3, 3, 3,
   1, 2, 2, 3, 2, 2, 2, 2, 1, 2, 1, 1, 3, 3, 3, 3,
   2, 2, 2, 3, 2, 2, 2, 2, 1, 3, 1, 1, 3, 3, 3, 3]

/-- Instruction length in bytes by opcode, rows 8x to Fx (R71). -/
def lengthTableHigh : List Nat :=
  [2, 2, 2, 3, 2, 2, 2, 2, 1, 2, 1, 3, 3, 3, 3, 3,
   2, 2, 2, 3, 2, 2, 2, 2, 1, 3, 1, 3, 3, 3, 3, 3,
   2, 2, 2, 2, 2, 2, 2, 2, 1, 2, 1, 3, 3, 3, 3, 3,
   2, 2, 2, 3, 2, 2, 2, 2, 1, 3, 1, 3, 3, 3, 3, 3,
   2, 2, 2, 2, 2, 2, 2, 2, 1, 2, 1, 3, 3, 3, 3, 3,
   2, 2, 2, 3, 2, 2, 2, 2, 1, 3, 1, 1, 3, 3, 3, 3,
   2, 2, 2, 2, 2, 2, 2, 2, 1, 2, 1, 3, 3, 3, 3, 3,
   2, 2, 2, 3, 3, 2, 2, 2, 1, 3, 1, 1, 3, 3, 3, 3]

/-- The length of an instruction, from its first byte alone (R71, R74). -/
def instrLength (op : Byte) : Nat := (lengthTableLow ++ lengthTableHigh).getD op.toNat 1

/-- A byte sequence is one instruction's encoding when there is a first byte and the number of bytes is the
length that byte gives (R70, R71). -/
def wellFormedBytes (bs : List Byte) : Bool :=
  match bs with
  | [] => false
  | op :: rest => rest.length + 1 == instrLength op

/-- Every instruction of the syntax is well formed: an operand has exactly the width of its encoding, and
"No operand value is illegal for any instruction" (R100). -/
def Instr.wellFormed (_ : Instr) : Bool := true

end Sys2Proof
end

