-- ==== Sys2Proof/Decode.lean ====
section
/-! DEFINITION. The decoder and the encoder (30_encoding.md). Decoding is a lookup of the first byte in the
opcode map (R70, R101), which gives the format (R73) and the instruction its operand bytes complete. -/

namespace Sys2Proof

open Machine (mkWord hiByte loByte)

/-- Why bytes decode to no instruction. Every opcode is assigned (R100), so only bytes can be missing. -/
inductive DecodeError where
  /-- There is no first byte. -/
  | noOpcode
  /-- Fewer bytes than the opcode's length (R71). -/
  | truncated (opcode : Byte)
deriving DecidableEq, Repr

/-- The formats (R73), each with the instruction its operand bytes complete. -/
inductive Format where
  /-- One byte. -/
  | f1 (i : Instr)
  /-- An operand byte. -/
  | f2 (k : Byte → Instr)
  /-- A two-byte operand, low byte first (R48). -/
  | f3 (k : Word → Instr)
  /-- `a8`, then `r8` (R98). -/
  | f3b (k : Byte → Byte → Instr)
  /-- Three skipped bytes. -/
  | f4 (k : Byte → Byte → Byte → Instr)

/-- Opcodes 00 to 0F (R101). -/
def opcodeRow0 : List Format :=
  [.f2 .brk, .f2 .oraIndX, .f1 .cle, .f1 .see,
   .f2 .tsbBp, .f2 .oraBp, .f2 .aslBp, .f2 .rmb0,
   .f1 .php, .f2 .oraImm, .f1 .aslA, .f1 .tsy,
   .f3 .tsbAbs, .f3 .oraAbs, .f3 .aslAbs, .f3b .bbr0]

/-- Opcodes 10 to 1F (R101). -/
def opcodeRow1 : List Format :=
  [.f2 .bplR8, .f2 .oraIndY, .f2 .oraIndZ, .f3 .bplR16,
   .f2 .trbBp, .f2 .oraBpX, .f2 .aslBpX, .f2 .rmb1,
   .f1 .clc, .f3 .oraAbsY, .f1 .incA, .f1 .inz,
   .f3 .trbAbs, .f3 .oraAbsX, .f3 .aslAbsX, .f3b .bbr1]

/-- Opcodes 20 to 2F (R101). -/
def opcodeRow2 : List Format :=
  [.f3 .jsrAbs, .f2 .andIndX, .f3 .jsrAbsInd, .f3 .jsrAbsXInd,
   .f2 .bitBp, .f2 .andBp, .f2 .rolBp, .f2 .rmb2,
   .f1 .plp, .f2 .andImm, .f1 .rolA, .f1 .tys,
   .f3 .bitAbs, .f3 .andAbs, .f3 .rolAbs, .f3b .bbr2]

/-- Opcodes 30 to 3F (R101). -/
def opcodeRow3 : List Format :=
  [.f2 .bmiR8, .f2 .andIndY, .f2 .andIndZ, .f3 .bmiR16,
   .f2 .bitBpX, .f2 .andBpX, .f2 .rolBpX, .f2 .rmb3,
   .f1 .sec, .f3 .andAbsY, .f1 .decA, .f1 .dez,
   .f3 .bitAbsX, .f3 .andAbsX, .f3 .rolAbsX, .f3b .bbr3]

/-- Opcodes 40 to 4F (R101). -/
def opcodeRow4 : List Format :=
  [.f1 .rti, .f2 .eorIndX, .f1 .neg, .f1 .asrA,
   .f2 .asrBp, .f2 .eorBp, .f2 .lsrBp, .f2 .rmb4,
   .f1 .pha, .f2 .eorImm, .f1 .lsrA, .f1 .taz,
   .f3 .jmpAbs, .f3 .eorAbs, .f3 .lsrAbs, .f3b .bbr4]

/-- Opcodes 50 to 5F (R101). -/
def opcodeRow5 : List Format :=
  [.f2 .bvcR8, .f2 .eorIndY, .f2 .eorIndZ, .f3 .bvcR16,
   .f2 .asrBpX, .f2 .eorBpX, .f2 .lsrBpX, .f2 .rmb5,
   .f1 .cli, .f3 .eorAbsY, .f1 .phy, .f1 .tab,
   .f4 .aug, .f3 .eorAbsX, .f3 .lsrAbsX, .f3b .bbr5]

/-- Opcodes 60 to 6F (R101). -/
def opcodeRow6 : List Format :=
  [.f1 .rts, .f2 .adcIndX, .f2 .rtn, .f3 .bsr,
   .f2 .stzBp, .f2 .adcBp, .f2 .rorBp, .f2 .rmb6,
   .f1 .pla, .f2 .adcImm, .f1 .rorA, .f1 .tza,
   .f3 .jmpAbsInd, .f3 .adcAbs, .f3 .rorAbs, .f3b .bbr6]

/-- Opcodes 70 to 7F (R101). -/
def opcodeRow7 : List Format :=
  [.f2 .bvsR8, .f2 .adcIndY, .f2 .adcIndZ, .f3 .bvsR16,
   .f2 .stzBpX, .f2 .adcBpX, .f2 .rorBpX, .f2 .rmb7,
   .f1 .sei, .f3 .adcAbsY, .f1 .ply, .f1 .tba,
   .f3 .jmpAbsXInd, .f3 .adcAbsX, .f3 .rorAbsX, .f3b .bbr7]

/-- Opcodes 80 to 8F (R101). -/
def opcodeRow8 : List Format :=
  [.f2 .braR8, .f2 .staIndX, .f2 .staSpIndY, .f3 .braR16,
   .f2 .styBp, .f2 .staBp, .f2 .stxBp, .f2 .smb0,
   .f1 .dey, .f2 .bitImm, .f1 .txa, .f3 .styAbsX,
   .f3 .styAbs, .f3 .staAbs, .f3 .stxAbs, .f3b .bbs0]

/-- Opcodes 90 to 9F (R101). -/
def opcodeRow9 : List Format :=
  [.f2 .bccR8, .f2 .staIndY, .f2 .staIndZ, .f3 .bccR16,
   .f2 .styBpX, .f2 .staBpX, .f2 .stxBpY, .f2 .smb1,
   .f1 .tya, .f3 .staAbsY, .f1 .txs, .f3 .stxAbsY,
   .f3 .stzAbs, .f3 .staAbsX, .f3 .stzAbsX, .f3b .bbs1]

/-- Opcodes A0 to AF (R101). -/
def opcodeRowA : List Format :=
  [.f2 .ldyImm, .f2 .ldaIndX, .f2 .ldxImm, .f2 .ldzImm,
   .f2 .ldyBp, .f2 .ldaBp, .f2 .ldxBp, .f2 .smb2,
   .f1 .tay, .f2 .ldaImm, .f1 .tax, .f3 .ldzAbs,
   .f3 .ldyAbs, .f3 .ldaAbs, .f3 .ldxAbs, .f3b .bbs2]

/-- Opcodes B0 to BF (R101). -/
def opcodeRowB : List Format :=
  [.f2 .bcsR8, .f2 .ldaIndY, .f2 .ldaIndZ, .f3 .bcsR16,
   .f2 .ldyBpX, .f2 .ldaBpX, .f2 .ldxBpY, .f2 .smb3,
   .f1 .clv, .f3 .ldaAbsY, .f1 .tsx, .f3 .ldzAbsX,
   .f3 .ldyAbsX, .f3 .ldaAbsX, .f3 .ldxAbsY, .f3b .bbs3]

/-- Opcodes C0 to CF (R101). -/
def opcodeRowC : List Format :=
  [.f2 .cpyImm, .f2 .cmpIndX, .f2 .cpzImm, .f2 .dew,
   .f2 .cpyBp, .f2 .cmpBp, .f2 .decBp, .f2 .smb4,
   .f1 .iny, .f2 .cmpImm, .f1 .dex, .f3 .asw,
   .f3 .cpyAbs, .f3 .cmpAbs, .f3 .decAbs, .f3b .bbs4]

/-- Opcodes D0 to DF (R101). -/
def opcodeRowD : List Format :=
  [.f2 .bneR8, .f2 .cmpIndY, .f2 .cmpIndZ, .f3 .bneR16,
   .f2 .cpzBp, .f2 .cmpBpX, .f2 .decBpX, .f2 .smb5,
   .f1 .cld, .f3 .cmpAbsY, .f1 .phx, .f1 .phz,
   .f3 .cpzAbs, .f3 .cmpAbsX, .f3 .decAbsX, .f3b .bbs5]

/-- Opcodes E0 to EF (R101). -/
def opcodeRowE : List Format :=
  [.f2 .cpxImm, .f2 .sbcIndX, .f2 .ldaSpIndY, .f2 .inw,
   .f2 .cpxBp, .f2 .sbcBp, .f2 .incBp, .f2 .smb6,
   .f1 .inx, .f2 .sbcImm, .f1 .nop, .f3 .row,
   .f3 .cpxAbs, .f3 .sbcAbs, .f3 .incAbs, .f3b .bbs6]

/-- Opcodes F0 to FF (R101). -/
def opcodeRowF : List Format :=
  [.f2 .beqR8, .f2 .sbcIndY, .f2 .sbcIndZ, .f3 .beqR16,
   .f3 .phwImmWord, .f2 .sbcBpX, .f2 .incBpX, .f2 .smb7,
   .f1 .sed, .f3 .sbcAbsY, .f1 .plx, .f1 .plz,
   .f3 .phwAbs, .f3 .sbcAbsX, .f3 .incAbsX, .f3b .bbs7]

/-- The opcode map (R101): entry number `op` is the format of opcode `op`. -/
def opcodeMap : List Format :=
  opcodeRow0 ++ opcodeRow1 ++ opcodeRow2 ++ opcodeRow3 ++ opcodeRow4 ++ opcodeRow5 ++ opcodeRow6 ++ opcodeRow7
    ++ opcodeRow8 ++ opcodeRow9 ++ opcodeRowA ++ opcodeRowB ++ opcodeRowC ++ opcodeRowD ++ opcodeRowE ++ opcodeRowF

/-- The format of an opcode. The map has 256 entries; the default stands for none. -/
def formatOf (op : Byte) : Format := opcodeMap.getD op.toNat (.f1 .nop)

/-- The instruction at the head of a byte sequence, and the bytes after it (R70, R72, R73). -/
def decode (bs : List Byte) : Except DecodeError (Instr × List Byte) :=
  match bs with
  | [] => .error .noOpcode
  | op :: rest =>
    match formatOf op, rest with
    | .f1 i, rest => .ok (i, rest)
    | .f2 k, op1 :: rest => .ok (k op1, rest)
    | .f3 k, op1 :: op2 :: rest => .ok (k (mkWord op2 op1), rest)
    | .f3b k, op1 :: op2 :: rest => .ok (k op1 op2, rest)
    | .f4 k, op1 :: op2 :: op3 :: rest => .ok (k op1 op2 op3, rest)
    | _, _ => .error (.truncated op)

/-- How many bytes the fetch reads for an opcode (R71, R72). -/
def fetchLength (op : Byte) : Nat := instrLength op

/-- An opcode with a two-byte operand, low byte first (R48). -/
def encodeWord (op : Byte) (w : Word) : List Byte := [op, loByte w, hiByte w]

/-- The bytes of an instruction at increasing addresses (R73, R101). -/
def encode (i : Instr) : List Byte :=
  match i with
  | .brk skipped => [0x00#8, skipped]
  | .oraIndX a => [0x01#8, a]
  | .cle => [0x02#8]
  | .see => [0x03#8]
  | .tsbBp a => [0x04#8, a]
  | .oraBp a => [0x05#8, a]
  | .aslBp a => [0x06#8, a]
  | .rmb0 a => [0x07#8, a]
  | .php => [0x08#8]
  | .oraImm d => [0x09#8, d]
  | .aslA => [0x0A#8]
  | .tsy => [0x0B#8]
  | .tsbAbs a => encodeWord 0x0C#8 a
  | .oraAbs a => encodeWord 0x0D#8 a
  | .aslAbs a => encodeWord 0x0E#8 a
  | .bbr0 a r => [0x0F#8, a, r]
  | .bplR8 r => [0x10#8, r]
  | .oraIndY a => [0x11#8, a]
  | .oraIndZ a => [0x12#8, a]
  | .bplR16 r => encodeWord 0x13#8 r
  | .trbBp a => [0x14#8, a]
  | .oraBpX a => [0x15#8, a]
  | .aslBpX a => [0x16#8, a]
  | .rmb1 a => [0x17#8, a]
  | .clc => [0x18#8]
  | .oraAbsY a => encodeWord 0x19#8 a
  | .incA => [0x1A#8]
  | .inz => [0x1B#8]
  | .trbAbs a => encodeWord 0x1C#8 a
  | .oraAbsX a => encodeWord 0x1D#8 a
  | .aslAbsX a => encodeWord 0x1E#8 a
  | .bbr1 a r => [0x1F#8, a, r]
  | .jsrAbs a => encodeWord 0x20#8 a
  | .andIndX a => [0x21#8, a]
  | .jsrAbsInd a => encodeWord 0x22#8 a
  | .jsrAbsXInd a => encodeWord 0x23#8 a
  | .bitBp a => [0x24#8, a]
  | .andBp a => [0x25#8, a]
  | .rolBp a => [0x26#8, a]
  | .rmb2 a => [0x27#8, a]
  | .plp => [0x28#8]
  | .andImm d => [0x29#8, d]
  | .rolA => [0x2A#8]
  | .tys => [0x2B#8]
  | .bitAbs a => encodeWord 0x2C#8 a
  | .andAbs a => encodeWord 0x2D#8 a
  | .rolAbs a => encodeWord 0x2E#8 a
  | .bbr2 a r => [0x2F#8, a, r]
  | .bmiR8 r => [0x30#8, r]
  | .andIndY a => [0x31#8, a]
  | .andIndZ a => [0x32#8, a]
  | .bmiR16 r => encodeWord 0x33#8 r
  | .bitBpX a => [0x34#8, a]
  | .andBpX a => [0x35#8, a]
  | .rolBpX a => [0x36#8, a]
  | .rmb3 a => [0x37#8, a]
  | .sec => [0x38#8]
  | .andAbsY a => encodeWord 0x39#8 a
  | .decA => [0x3A#8]
  | .dez => [0x3B#8]
  | .bitAbsX a => encodeWord 0x3C#8 a
  | .andAbsX a => encodeWord 0x3D#8 a
  | .rolAbsX a => encodeWord 0x3E#8 a
  | .bbr3 a r => [0x3F#8, a, r]
  | .rti => [0x40#8]
  | .eorIndX a => [0x41#8, a]
  | .neg => [0x42#8]
  | .asrA => [0x43#8]
  | .asrBp a => [0x44#8, a]
  | .eorBp a => [0x45#8, a]
  | .lsrBp a => [0x46#8, a]
  | .rmb4 a => [0x47#8, a]
  | .pha => [0x48#8]
  | .eorImm d => [0x49#8, d]
  | .lsrA => [0x4A#8]
  | .taz => [0x4B#8]
  | .jmpAbs a => encodeWord 0x4C#8 a
  | .eorAbs a => encodeWord 0x4D#8 a
  | .lsrAbs a => encodeWord 0x4E#8 a
  | .bbr4 a r => [0x4F#8, a, r]
  | .bvcR8 r => [0x50#8, r]
  | .eorIndY a => [0x51#8, a]
  | .eorIndZ a => [0x52#8, a]
  | .bvcR16 r => encodeWord 0x53#8 r
  | .asrBpX a => [0x54#8, a]
  | .eorBpX a => [0x55#8, a]
  | .lsrBpX a => [0x56#8, a]
  | .rmb5 a => [0x57#8, a]
  | .cli => [0x58#8]
  | .eorAbsY a => encodeWord 0x59#8 a
  | .phy => [0x5A#8]
  | .tab => [0x5B#8]
  | .aug b1 b2 b3 => [0x5C#8, b1, b2, b3]
  | .eorAbsX a => encodeWord 0x5D#8 a
  | .lsrAbsX a => encodeWord 0x5E#8 a
  | .bbr5 a r => [0x5F#8, a, r]
  | .rts => [0x60#8]
  | .adcIndX a => [0x61#8, a]
  | .rtn d => [0x62#8, d]
  | .bsr r => encodeWord 0x63#8 r
  | .stzBp a => [0x64#8, a]
  | .adcBp a => [0x65#8, a]
  | .rorBp a => [0x66#8, a]
  | .rmb6 a => [0x67#8, a]
  | .pla => [0x68#8]
  | .adcImm d => [0x69#8, d]
  | .rorA => [0x6A#8]
  | .tza => [0x6B#8]
  | .jmpAbsInd a => encodeWord 0x6C#8 a
  | .adcAbs a => encodeWord 0x6D#8 a
  | .rorAbs a => encodeWord 0x6E#8 a
  | .bbr6 a r => [0x6F#8, a, r]
  | .bvsR8 r => [0x70#8, r]
  | .adcIndY a => [0x71#8, a]
  | .adcIndZ a => [0x72#8, a]
  | .bvsR16 r => encodeWord 0x73#8 r
  | .stzBpX a => [0x74#8, a]
  | .adcBpX a => [0x75#8, a]
  | .rorBpX a => [0x76#8, a]
  | .rmb7 a => [0x77#8, a]
  | .sei => [0x78#8]
  | .adcAbsY a => encodeWord 0x79#8 a
  | .ply => [0x7A#8]
  | .tba => [0x7B#8]
  | .jmpAbsXInd a => encodeWord 0x7C#8 a
  | .adcAbsX a => encodeWord 0x7D#8 a
  | .rorAbsX a => encodeWord 0x7E#8 a
  | .bbr7 a r => [0x7F#8, a, r]
  | .braR8 r => [0x80#8, r]
  | .staIndX a => [0x81#8, a]
  | .staSpIndY d => [0x82#8, d]
  | .braR16 r => encodeWord 0x83#8 r
  | .styBp a => [0x84#8, a]
  | .staBp a => [0x85#8, a]
  | .stxBp a => [0x86#8, a]
  | .smb0 a => [0x87#8, a]
  | .dey => [0x88#8]
  | .bitImm d => [0x89#8, d]
  | .txa => [0x8A#8]
  | .styAbsX a => encodeWord 0x8B#8 a
  | .styAbs a => encodeWord 0x8C#8 a
  | .staAbs a => encodeWord 0x8D#8 a
  | .stxAbs a => encodeWord 0x8E#8 a
  | .bbs0 a r => [0x8F#8, a, r]
  | .bccR8 r => [0x90#8, r]
  | .staIndY a => [0x91#8, a]
  | .staIndZ a => [0x92#8, a]
  | .bccR16 r => encodeWord 0x93#8 r
  | .styBpX a => [0x94#8, a]
  | .staBpX a => [0x95#8, a]
  | .stxBpY a => [0x96#8, a]
  | .smb1 a => [0x97#8, a]
  | .tya => [0x98#8]
  | .staAbsY a => encodeWord 0x99#8 a
  | .txs => [0x9A#8]
  | .stxAbsY a => encodeWord 0x9B#8 a
  | .stzAbs a => encodeWord 0x9C#8 a
  | .staAbsX a => encodeWord 0x9D#8 a
  | .stzAbsX a => encodeWord 0x9E#8 a
  | .bbs1 a r => [0x9F#8, a, r]
  | .ldyImm d => [0xA0#8, d]
  | .ldaIndX a => [0xA1#8, a]
  | .ldxImm d => [0xA2#8, d]
  | .ldzImm d => [0xA3#8, d]
  | .ldyBp a => [0xA4#8, a]
  | .ldaBp a => [0xA5#8, a]
  | .ldxBp a => [0xA6#8, a]
  | .smb2 a => [0xA7#8, a]
  | .tay => [0xA8#8]
  | .ldaImm d => [0xA9#8, d]
  | .tax => [0xAA#8]
  | .ldzAbs a => encodeWord 0xAB#8 a
  | .ldyAbs a => encodeWord 0xAC#8 a
  | .ldaAbs a => encodeWord 0xAD#8 a
  | .ldxAbs a => encodeWord 0xAE#8 a
  | .bbs2 a r => [0xAF#8, a, r]
  | .bcsR8 r => [0xB0#8, r]
  | .ldaIndY a => [0xB1#8, a]
  | .ldaIndZ a => [0xB2#8, a]
  | .bcsR16 r => encodeWord 0xB3#8 r
  | .ldyBpX a => [0xB4#8, a]
  | .ldaBpX a => [0xB5#8, a]
  | .ldxBpY a => [0xB6#8, a]
  | .smb3 a => [0xB7#8, a]
  | .clv => [0xB8#8]
  | .ldaAbsY a => encodeWord 0xB9#8 a
  | .tsx => [0xBA#8]
  | .ldzAbsX a => encodeWord 0xBB#8 a
  | .ldyAbsX a => encodeWord 0xBC#8 a
  | .ldaAbsX a => encodeWord 0xBD#8 a
  | .ldxAbsY a => encodeWord 0xBE#8 a
  | .bbs3 a r => [0xBF#8, a, r]
  | .cpyImm d => [0xC0#8, d]
  | .cmpIndX a => [0xC1#8, a]
  | .cpzImm d => [0xC2#8, d]
  | .dew a => [0xC3#8, a]
  | .cpyBp a => [0xC4#8, a]
  | .cmpBp a => [0xC5#8, a]
  | .decBp a => [0xC6#8, a]
  | .smb4 a => [0xC7#8, a]
  | .iny => [0xC8#8]
  | .cmpImm d => [0xC9#8, d]
  | .dex => [0xCA#8]
  | .asw a => encodeWord 0xCB#8 a
  | .cpyAbs a => encodeWord 0xCC#8 a
  | .cmpAbs a => encodeWord 0xCD#8 a
  | .decAbs a => encodeWord 0xCE#8 a
  | .bbs4 a r => [0xCF#8, a, r]
  | .bneR8 r => [0xD0#8, r]
  | .cmpIndY a => [0xD1#8, a]
  | .cmpIndZ a => [0xD2#8, a]
  | .bneR16 r => encodeWord 0xD3#8 r
  | .cpzBp a => [0xD4#8, a]
  | .cmpBpX a => [0xD5#8, a]
  | .decBpX a => [0xD6#8, a]
  | .smb5 a => [0xD7#8, a]
  | .cld => [0xD8#8]
  | .cmpAbsY a => encodeWord 0xD9#8 a
  | .phx => [0xDA#8]
  | .phz => [0xDB#8]
  | .cpzAbs a => encodeWord 0xDC#8 a
  | .cmpAbsX a => encodeWord 0xDD#8 a
  | .decAbsX a => encodeWord 0xDE#8 a
  | .bbs5 a r => [0xDF#8, a, r]
  | .cpxImm d => [0xE0#8, d]
  | .sbcIndX a => [0xE1#8, a]
  | .ldaSpIndY d => [0xE2#8, d]
  | .inw a => [0xE3#8, a]
  | .cpxBp a => [0xE4#8, a]
  | .sbcBp a => [0xE5#8, a]
  | .incBp a => [0xE6#8, a]
  | .smb6 a => [0xE7#8, a]
  | .inx => [0xE8#8]
  | .sbcImm d => [0xE9#8, d]
  | .nop => [0xEA#8]
  | .row a => encodeWord 0xEB#8 a
  | .cpxAbs a => encodeWord 0xEC#8 a
  | .sbcAbs a => encodeWord 0xED#8 a
  | .incAbs a => encodeWord 0xEE#8 a
  | .bbs6 a r => [0xEF#8, a, r]
  | .beqR8 r => [0xF0#8, r]
  | .sbcIndY a => [0xF1#8, a]
  | .sbcIndZ a => [0xF2#8, a]
  | .beqR16 r => encodeWord 0xF3#8 r
  | .phwImmWord d => encodeWord 0xF4#8 d
  | .sbcBpX a => [0xF5#8, a]
  | .incBpX a => [0xF6#8, a]
  | .smb7 a => [0xF7#8, a]
  | .sed => [0xF8#8]
  | .sbcAbsY a => encodeWord 0xF9#8 a
  | .plx => [0xFA#8]
  | .plz => [0xFB#8]
  | .phwAbs a => encodeWord 0xFC#8 a
  | .sbcAbsX a => encodeWord 0xFD#8 a
  | .incAbsX a => encodeWord 0xFE#8 a
  | .bbs7 a r => [0xFF#8, a, r]

/-- Bits `8 k + 7` to `8 k` of a number. -/
def byteOfNat (w k : Nat) : Byte := BitVec.ofNat 8 (w / 2 ^ (8 * k))

/-- The four bytes of an instruction given as a number of `nbits` bits, the first byte lowest; every bit above
`nbits` is zero. Four bytes are the longest instruction (R71). -/
def tableBytes (nbits w : Nat) : List Byte :=
  let v := w % 2 ^ nbits
  [byteOfNat v 0, byteOfNat v 1, byteOfNat v 2, byteOfNat v 3]

/-- The instruction the decoder reads from a number that holds its bits. -/
def decodeTableWord (nbits w : Nat) : Option Instr :=
  match decode (tableBytes nbits w) with
  | .ok (i, _) => some i
  | .error _ => none

end Sys2Proof
end

