-- ==== Sys2Proof/Machine/Fetch.lean ====
section
/-! DEFINITION. Fetching the instruction at PC (30_encoding.md R72, 20_memory.md R57), and placing one there. -/

namespace Sys2Proof.Machine

/-- One instruction byte: refused at a device (U7) and at an unmapped address (U10). -/
def fetchByte (addr : Word) (s : State) : Res Byte :=
  match kindAt s addr with
  | .device => .error (.deviceAccess addr)
  | .unmapped => .error (.unmappedFetch addr)
  | _ => .ok (s.mem.read addr.toNat)

/-- `n` instruction bytes from `addr`, wrapping from 0xFFFF to 0x0000 (R19, R72). -/
def fetchBytes (n : Nat) (addr : Word) (s : State) : Res (List Byte) :=
  match n with
  | 0 => .ok []
  | n + 1 => do
    let b ← fetchByte addr s
    let rest ← fetchBytes n (addr + 1#16) s
    return b :: rest

/-- The bytes of the instruction at PC: the opcode, then as many as its length says (R71, R72). All are read
before the instruction acts (R57). -/
def fetchInstrBytes (s : State) : Res (List Byte) := do
  let op ← fetchByte s.pc s
  let rest ← fetchBytes (fetchLength op - 1) (s.pc + 1#16) s
  return op :: rest

/-- The instruction at PC. -/
def fetchInstr (s : State) : Res Instr := do
  let bs ← fetchInstrBytes s
  match decode bs with
  | .ok (i, _) => return i
  | .error _ => .error (.undecodable (bs.headD 0#8))

/-- Bytes stored at consecutive addresses, whatever stands there. -/
def placeBytes (bs : List Byte) (addr : Word) (m : Memory) : Memory :=
  match bs with
  | [] => m
  | b :: rest => placeBytes rest (addr + 1#16) (m.write addr.toNat b)

end Sys2Proof.Machine
end

