-- ==== Sys2Proof/Machine/Boundary.lean ====
section
/-! DEFINITION. What one boundary does: the event that the acceptance rule finds (60_exceptions.md R263), or the
instruction at PC. -/

namespace Sys2Proof.Machine

/-- What is done at the boundary (R263): the reset sequence, a trap entry, or the instruction at PC. -/
def act (s : State) : Result :=
  match acceptedEvent s with
  | .reset => outcome (resetSequence s)
  | .nmi => outcome (takeNmi s)
  | .irq => outcome (takeIrq s)
  | .instruction =>
    match fetchInstr s with
    | .ok i => exec i s
    | .error r => .refused r

end Sys2Proof.Machine
end

