-- ==== Sys2Proof/Machine/Step.lean ====
section
/-! DEFINITION. One step: what the acceptance rule of 60_exceptions.md R263 finds at an instruction boundary, and
the inputs up to the next one. -/

namespace Sys2Proof.Machine

/-- One step, from one boundary to the next (R263, R300). -/
def step (s : State) : Host.Outcome State Fault Refusal :=
  match act s with
  | .next t => .next (nextBoundary t)
  | .fault f => .fault f
  | .refused r => .refused r

/-- The state with an instruction's bytes stored where the next step fetches. It is the load of a program from
outside the machine (log entry 17). -/
def State.withFetchWord (s : State) (nbits w : Nat) : State :=
  s.setMem (placeBytes (tableBytes nbits w) s.pc s.mem)

end Sys2Proof.Machine
end

