-- ==== Sys2Proof/Machine/Run.lean ====
section
/-! DEFINITION. Runs and how they end (70_reset_and_hazards.md R300). The boundary rule is repeated by `step`; what
bounds a run is `END_PC` or a number of INSTRUCTIONS: an interrupt entry or a reset at a boundary is none. -/

namespace Sys2Proof.Machine

/-- What the harness ends a run by (R300, D25): `END_PC`, a number of instructions, or whichever comes first. -/
structure RunLimit where
  /-- `END_PC`, if the harness sets it. -/
  endPc : Option Word
  /-- How many instructions are left, if the harness gives a number. -/
  instructions : Option Nat
deriving DecidableEq, Repr

/-- What became of a run. -/
inductive RunResult where
  /-- The limit was reached at a boundary in this state. -/
  | ended (s : State)
  /-- The limit was not reached at as many boundaries as were looked at; the run goes on from this state. -/
  | running (s : State)
  /-- A step stopped with a fault. -/
  | fault (f : Fault)
  /-- A step was refused. -/
  | refused (r : Refusal)
deriving DecidableEq, Repr

/-- The end of a run, tested at a boundary (R300). -/
def atEnd (limit : RunLimit) (s : State) : Bool :=
  decide (limit.endPc = some s.pc) || decide (limit.instructions = some 0)

/-- What is left of the limit after a boundary: only the execution of an instruction counts (R300). -/
def RunLimit.after (limit : RunLimit) (e : Event) : RunLimit :=
  match e with
  | .instruction => { limit with instructions := limit.instructions.map (· - 1) }
  | .reset => limit
  | .nmi => limit
  | .irq => limit

/-- A run from a given state (R300). `k` is how many boundaries are looked at: it is no part of the run's limit, and
a run that has ended has ended the same for every larger `k` (DESIGN CHOICE in form, safe, log entry 25). -/
def runUntil (limit : RunLimit) (k : Nat) (s : State) : RunResult :=
  match k with
  | 0 => if atEnd limit s then .ended s else .running s
  | k + 1 =>
    if atEnd limit s then .ended s
    else match step s with
      | .next t => runUntil (limit.after (acceptedEvent s)) k t
      | .fault f => .fault f
      | .refused r => .refused r

/-- Power-on (R290, R300): the reset sequence, before the first boundary. The draw counter advances, so that the
values it draws are not those of a later reset (log entries 9, 25). -/
def powerOn (s : State) : Res State := do
  let t ← resetSequence s
  return { t with draws := t.draws + 1 }

/-- A run that begins with rule R290 (R300). -/
def runFromPowerOn (limit : RunLimit) (k : Nat) (s : State) : RunResult :=
  match powerOn s with
  | .ok t => runUntil limit k t
  | .error r => .refused r

/-- "PC unchanged after an instruction": by what a harness can detect the loop that ends a test program (R300). -/
def pcUnchanged (s : State) : Bool :=
  match acceptedEvent s, step s with
  | .instruction, .next t => decide (t.pc = s.pc)
  | _, _ => false

end Sys2Proof.Machine
end

