-- ==== Sys2Proof/Safety.lean ====
section
/-! DEFINITION. What a run reaches, what can be accessed, and the other terms claims use. -/

namespace Sys2Proof.Safety

open Sys2Proof.Machine

/-- No address is a device and none is unmapped: the map for which the rules are exact (20_memory.md R43). -/
def ExactMap (s : State) : Prop := ∀ a : Word, kindAt s a = .ram ∨ kindAt s a = .rom

/-- An access to the address is not refused (U7). -/
abbrev Accessible (s : State) (a : Word) : Prop := kindAt s a ≠ .device

/-- An operand form names the byte at `ea`, the access is not refused, and the byte read there is `v`. -/
def OperandAt (md : Mode) (s : State) (ea : Word) (v : Byte) : Prop :=
  effectiveAddress md s = .ok ea ∧ Accessible s ea ∧ peek 2 ea s = v

/-- `P` holds of the operand byte an operand form reads, wherever it can be read. -/
def OnOperand (md : Mode) (s : State) (P : Byte → Prop) : Prop := ∀ ea v, OperandAt md s ea v → P v

/-- `P` holds of the address and the operand byte of a form, wherever it can be read. -/
def OnPlace (md : Mode) (s : State) (P : Word → Byte → Prop) : Prop := ∀ ea v, OperandAt md s ea v → P ea v

/-- `P` holds of the address a form names, wherever it can be accessed. -/
def OnAddress (md : Mode) (s : State) (P : Word → Prop) : Prop :=
  ∀ ea, effectiveAddress md s = .ok ea → Accessible s ea → P ea

/-- Memory `m` is that of `s` after the bytes of `cells` are stored at their addresses: a ram address holds the
new byte, every other named address its old one (a store to rom or to an unmapped address is dropped, R43, U10),
and EVERY address that is not named reads as before. -/
def Stored (s : State) (cells : List (Word × Byte)) (m : Memory) : Prop :=
  (∀ k : Nat, (∀ c ∈ cells, c.1.toNat ≠ k) → m.read k = s.mem.read k) ∧
  (∀ c ∈ cells, m.read c.1.toNat = if kindAt s c.1 = .ram then c.2 else s.mem.read c.1.toNat)

/-- `S` one lower in the width `P.E` selects (R16). -/
def spDown (e : Bool) (sp : Word) : Word :=
  if e then BitVec.ofNat 16 (256 * (sp.toNat / 256) + (sp.toNat + 255) % 256) else BitVec.ofNat 16 (sp.toNat + 65535)

/-- `S` `d` higher in the width `P.E` selects (R16, R134). -/
def spUp (e : Bool) (sp : Word) (d : Nat) : Word :=
  if e then BitVec.ofNat 16 (256 * (sp.toNat / 256) + (sp.toNat + d) % 256) else BitVec.ofNat 16 (sp.toNat + d)

/-- The status byte with bit 4 given (R29, the sum it writes). -/
def statusByte (p : Flags) (brk : Bool) : Byte :=
  BitVec.ofNat 8 (p.n.toNat * 128 + p.v.toNat * 64 + p.e.toNat * 32 + brk.toNat * 16 + p.d.toNat * 8
    + p.i.toNat * 4 + p.z.toNat * 2 + p.c.toNat)

/-- The word two bytes make, the first the low one (R45), as the reads `k` and `k + 1` of an instruction. -/
def wordAt (k : Nat) (lo hi : Word) (s : State) : Word :=
  BitVec.ofNat 16 ((peek k lo s).toNat + 256 * (peek (k + 1) hi s).toNat)

/-- The three stack bytes and the two vector bytes of a trap entry can be accessed. -/
def TrapAccessible (s : State) (vec : Word) : Prop :=
  Accessible s s.sp ∧ Accessible s (spDown s.p.e s.sp) ∧ Accessible s (spDown s.p.e (spDown s.p.e s.sp)) ∧
  Accessible s vec ∧ Accessible s (vec + 1#16)

/-- `t` is `s` after trap entry (R266): PC high, PC low and the status byte are pushed, I is set, D is cleared, PC
is the word at the vector, read after the pushes, and nothing else changes. -/
def EntersTrap (s : State) (vec ret : Word) (brk : Bool) (t : State) : Prop :=
  let sp1 := spDown s.p.e s.sp
  let sp2 := spDown s.p.e sp1
  ∃ m, Stored s [(s.sp, hiByte ret), (sp1, loByte ret), (sp2, statusByte s.p brk)] m ∧
    t = { s with
      mem := m
      sp := spDown s.p.e sp2
      p := { s.p with i := true, d := false }
      pc := wordAt 0 vec (vec + 1#16) { s with mem := m } }

/-- The instruction that executes at this boundary has one of these opcodes. -/
def ExecutesOneOf (s : State) (opcodes : List Byte) : Prop :=
  acceptedEvent s = .instruction ∧ s.mem.read s.pc.toNat ∈ opcodes

/-- The bytes are the instruction's encoding: whatever follows them, the decoder reads the instruction and leaves
what follows. -/
def Codes (bs : List Byte) (i : Instr) : Prop := ∀ rest, decode (bs ++ rest) = .ok (i, rest)

/-- `Reaches n s t`: boundary after boundary leads from `s` to `t`, and at exactly `n` of the boundaries an
instruction executes; at the others an interrupt is entered or a reset performed (R263, R300). -/
inductive Reaches : Nat → State → State → Prop where
  | here (s : State) : Reaches 0 s s
  | instruction {n : Nat} {s t u : State} : acceptedEvent s = .instruction → step s = .next t → Reaches n t u →
      Reaches (n + 1) s u
  | event {n : Nat} {s t u : State} : acceptedEvent s ≠ .instruction → step s = .next t → Reaches n t u →
      Reaches n s u

/-- RESET does not stay active for ever: the last sample of the inputs, or the line where none is listed, is
inactive. While it stays active no instruction executes (R290). -/
def resetReleased (s : State) : Bool :=
  match s.inputs.getLast? with
  | some i => !i.reset
  | none => !s.resetLine

/-- The first of these addresses that belongs to a device. -/
def firstDevice (s : State) (addrs : List Word) : Option Word := addrs.find? (fun a => decide (kindAt s a = .device))

end Sys2Proof.Safety
end

