-- ==== Sys2Proof/Certificates/Slice0/Obligations.lean ====
section
/-! DEFINITION. The statements for the provers. A clause about an instruction names its opcode bytes (`Codes`) and
the whole next state as an equation: what the equation does not name is unchanged (the frame). An operand in
memory is named by `OnOperand`, `OnPlace`, `OnAddress`, whose only hypothesis is that the address the form gives
can be accessed (Safety). -/

open Sys2Proof Sys2Proof.Machine Sys2Proof.Safety

/-- Decoding the encoding of any instruction gives it back and leaves the bytes after it -/
def Obligations.DecodeInvertsEncode : Prop :=
  ∀ (i : Instr) (rest : List Byte), i.wellFormed = true → decode (encode i ++ rest) = .ok (i, rest)

/-- Whatever bytes decode to an instruction begin with its encoding -/
def Obligations.EncodeInvertsDecode : Prop :=
  ∀ (bs rest : List Byte) (i : Instr), decode bs = .ok (i, rest) → bs = encode i ++ rest

/-- Every opcode is assigned: as many bytes as the length table gives are one instruction -/
def Obligations.BytesOfTableLengthDecode : Prop :=
  ∀ bs : List Byte, wellFormedBytes bs = true → ∃ i, decode bs = .ok (i, [])

/-- Encodings written out in the spec decode to the instructions they stand for -/
def Obligations.WrittenEncodingsDecode : Prop :=
  Codes [0x69#8, 0x20#8] (.adcImm 0x20#8) ∧
  Codes [0x2C#8, 0x34#8, 0x12#8] (.bitAbs 0x1234#16) ∧
  Codes [0xCB#8, 0x34#8, 0x12#8] (.asw 0x1234#16) ∧
  Codes [0xF4#8, 0x34#8, 0x12#8] (.phwImmWord 0x1234#16) ∧
  Codes [0x5C#8, 0xAA#8, 0xBB#8, 0xCC#8] (.aug 0xAA#8 0xBB#8 0xCC#8) ∧
  Codes [0x00#8, 0x99#8] (.brk 0x99#8) ∧
  Codes [0x0F#8, 0x20#8, 0xED#8] (.bbr0 0x20#8 0xED#8) ∧
  Codes [0xF7#8, 0x20#8] (.smb7 0x20#8) ∧
  Codes [0x37#8, 0x20#8] (.rmb3 0x20#8) ∧
  Codes [0xD3#8, 0xEE#8, 0x0F#8] (.bneR16 0x0FEE#16) ∧
  Codes [0xD0#8, 0xEE#8] (.bneR8 0xEE#8) ∧
  Codes [0xE2#8, 0x01#8] (.ldaSpIndY 0x01#8) ∧
  Codes [0x1B#8] (.inz) ∧
  Codes [0x02#8] (.cle) ∧
  Codes [0x7B#8] (.tba) ∧
  Codes [0x60#8] (.rts)

/-- Where no event is accepted, a step runs the instruction whose bytes stand at PC -/
def Obligations.StepRunsDecodedInstruction : Prop :=
  ∀ (s : State) (bs : List Byte) (i : Instr),
    s.resetLine = false → s.nmiPending = false → (s.irqLine = false ∨ s.p.i = true) →
    wellFormedBytes bs = true → decode bs = .ok (i, []) →
    (∀ (k : Nat) (h : k < bs.length), (kindAt s (s.pc + BitVec.ofNat 16 k) = .ram ∨ kindAt s (s.pc + BitVec.ofNat 16 k) = .rom) ∧
      s.mem.read (s.pc + BitVec.ofNat 16 k).toNat = bs[k]) →
    step s = match exec i s with
      | .next t => .next (nextBoundary t)
      | .fault f => .fault f
      | .refused r => .refused r

/-- The inputs up to the next boundary, after every step (samples are the model's choice, log entry 10): levels taken over, an NMI edge latched -/
def Obligations.NextBoundaryTakesInputs : Prop :=
  (∀ s : State, s.inputs = [] → nextBoundary s = { s with draws := s.draws + 1 }) ∧
  (∀ (s : State) (j : InputSample) (js : List InputSample), s.inputs = j :: js →
    nextBoundary s = { s with
      draws := s.draws + 1
      irqLine := j.irq
      resetLine := j.reset
      nmiPending := s.nmiPending || j.nmiEdge
      inputs := js }) ∧
  (∀ s t : State, step s = .next t →
    let latch := match acceptedEvent s with
      | .reset => false
      | .nmi => false
      | .irq => s.nmiPending
      | .instruction => s.nmiPending
    (∃ u, act s = .next u ∧ t = nextBoundary u ∧
      (acceptedEvent s = .instruction → ∃ i, fetchInstr s = .ok i ∧ exec i s = .next u) ∧
      u.inputs = s.inputs ∧ u.irqLine = s.irqLine ∧ u.resetLine = s.resetLine ∧ u.nmiPending = latch ∧ u.draws = s.draws) ∧
    t.draws = s.draws + 1 ∧
    match s.inputs with
    | [] => t.inputs = [] ∧ t.irqLine = s.irqLine ∧ t.resetLine = s.resetLine ∧ t.nmiPending = latch
    | j :: js => t.inputs = js ∧ t.irqLine = j.irq ∧ t.resetLine = j.reset ∧ t.nmiPending = (latch || j.nmiEdge))

/-- A pending NMI is taken whatever I is, unless RESET is active: the latch is cleared and the trap entered -/
def Obligations.StepTakesNmi : Prop :=
  ∀ s : State, s.resetLine = false → s.nmiPending = true → TrapAccessible s s.cfg.vecNmi →
    ∃ t, EntersTrap { s with nmiPending := false } s.cfg.vecNmi s.pc false t ∧ step s = .next (nextBoundary t)

/-- An active IRQ with I = 0 is taken: PC and status with bit 4 = 0 are stacked, I set, D cleared, PC from VEC_IRQ -/
def Obligations.StepTakesIrq : Prop :=
  ∀ s : State, s.resetLine = false → s.nmiPending = false → s.irqLine = true → s.p.i = false →
    TrapAccessible s s.cfg.vecIrq →
    ∃ t, EntersTrap s s.cfg.vecIrq s.pc false t ∧ step s = .next (nextBoundary t)

/-- An active RESET performs the reset sequence, before NMI and IRQ; memory is unchanged -/
def Obligations.StepPerformsReset : Prop :=
  ∀ s : State, s.resetLine = true → Accessible s s.cfg.vecReset → Accessible s (s.cfg.vecReset + 1#16) →
    ∃ (a x y sl : Byte) (n v z c : Bool),
      step s = .next (nextBoundary { s with
        a := a
        x := x
        y := y
        z := 0x00#8
        b := 0x00#8
        sp := BitVec.ofNat 16 (0x100 + sl.toNat)
        p := { n := n, v := v, e := true, d := false, i := true, z := z, c := c }
        nmiPending := false
        pc := wordAt 0 s.cfg.vecReset (s.cfg.vecReset + 1#16) s })

/-- The state after reset holds the values the spec gives -/
def Obligations.ResetStateHoldsSpecValues : Prop :=
  State.reset.z = 0x00#8 ∧ State.reset.b = 0x00#8 ∧ hiByte State.reset.sp = 0x01#8 ∧
    State.reset.p.e = true ∧ State.reset.p.i = true ∧ State.reset.p.d = false ∧ State.reset.nmiPending = false ∧
    State.reset.cfg.vecNmi = 0xFFFA#16 ∧ State.reset.cfg.vecReset = 0xFFFC#16 ∧ State.reset.cfg.vecIrq = 0xFFFE#16 ∧
    State.reset.cfg.phwOrder = .highFirst ∧ State.reset.cfg.wordRmwOrder = .loHi ∧
    State.reset.pc = wordAt 0 State.reset.cfg.vecReset (State.reset.cfg.vecReset + 1#16) State.reset

/-- Every step keeps the memory in its canonical form (the form is the model's choice, log entry 4) -/
def Obligations.StepKeepsMemoryCanonical : Prop :=
  ∀ s t : State, s.mem.wf = true → step s = .next t → t.mem.wf = true

/-- The memory of the reset state is in canonical form (the model's choice, log entry 4) -/
def Obligations.ResetMemoryIsCanonical : Prop :=
  State.reset.mem.wf = true

/-- No step changes the parameters: vectors, orders and the memory map are fixed for the machine -/
def Obligations.StepKeepsParameters : Prop :=
  ∀ s t : State, step s = .next t → t.cfg = s.cfg ∧ ∀ a : Word, kindAt t a = kindAt s a

/-- No step changes a byte at an address that is not ram -/
def Obligations.StepKeepsBytesOutsideRam : Prop :=
  ∀ s t : State, step s = .next t → ∀ a : Word, kindAt s a ≠ .ram → t.mem.read a.toNat = s.mem.read a.toNat

/-- Where every address is ram or rom the processor never stops: every step has a next state -/
def Obligations.StepProceedsOnExactMap : Prop :=
  ∀ s : State, ExactMap s → ∃ t, step s = .next t ∧ ExactMap t

/-- Device accesses (data, pointer, stack, vector, any instruction byte) and unmapped fetches are refused; unmapped reads give some value, stores are dropped -/
def Obligations.DeviceAndUnmappedRefusals : Prop :=
  ∀ s : State,
    let refuses := fun {α : Type} (r : Res α) (accesses : List Word) =>
      ∀ d, firstDevice s accesses = some d → r = .error (.deviceAccess d)
    let stops := fun (i : Instr) (accesses : List Word) =>
      ∀ d, firstDevice s accesses = some d → exec i s = .refused (.deviceAccess d)
    let page := fun off : Nat => BitVec.ofNat 16 (s.b.toNat * 256 + off % 256)
    let down1 := spDown s.p.e s.sp
    let down2 := spDown s.p.e down1
    let up := fun k : Nat => spUp s.p.e s.sp k
    (∀ (k : Nat) (a : Word) (v : Byte),
      refuses (memRead k a s) [a] ∧ refuses (memWrite a v s) [a] ∧ refuses (fetchByte a s) [a] ∧
      refuses (push v s) [s.sp] ∧ refuses (pull k s) [up 1] ∧ refuses (read16 k a s) [a, a + 1#16] ∧
      refuses (read16bp k v s) [page v.toNat, page (v.toNat + 1)]) ∧
    (∀ (md : Mode) (ea : Word), effectiveAddress md s = .ok ea →
      refuses (readSource (.mem md) s) [ea] ∧ (∀ v, refuses (store v md s) [ea]) ∧ (∀ f, refuses (modify f (.mem md) s) [ea])) ∧
    (∀ (md : Mode) (r : Refusal), effectiveAddress md s = .error r →
      readSource (.mem md) s = .error r ∧ (∀ v, store v md s = .error r) ∧ (∀ f, modify f (.mem md) s = .error r)) ∧
    (∀ a : Byte, refuses (effectiveAddress (.indX a) s) [page (a + s.x).toNat, page ((a + s.x).toNat + 1)] ∧
      refuses (effectiveAddress (.indY a) s) [page a.toNat, page (a.toNat + 1)] ∧
      refuses (effectiveAddress (.indZ a) s) [page a.toNat, page (a.toNat + 1)] ∧
      refuses (effectiveAddress (.spIndY a) s) [BitVec.ofNat 16 (s.sp.toNat + a.toNat), BitVec.ofNat 16 (s.sp.toNat + a.toNat + 1)]) ∧
    (∀ (a : Word) (v : Byte), stops (.ldaAbs a) [a] ∧ stops (.staAbs a) [a] ∧ stops (.incAbs a) [a] ∧
      stops (.asw a) [a, a + 1#16] ∧ stops (.row a) [a, a + 1#16] ∧
      stops (.inw v) [page v.toNat, page (v.toNat + 1)] ∧ stops (.dew v) [page v.toNat, page (v.toNat + 1)] ∧
      stops .pha [s.sp] ∧ stops .pla [up 1] ∧ stops .plp [up 1] ∧ stops (.phwImmWord a) [s.sp, down1] ∧
      stops (.phwAbs a) [a, a + 1#16, s.sp, down1] ∧ stops (.jmpAbsInd a) [a, a + 1#16] ∧ stops (.jsrAbs a) [s.sp, down1] ∧
      stops (.jsrAbsInd a) [s.sp, down1, a, a + 1#16] ∧ stops (.bsr a) [s.sp, down1] ∧ stops .rts [up 1, up 2] ∧
      stops .rti [up 1, up 2, up 3] ∧ stops (.brk v) [s.sp, down1, down2, s.cfg.vecIrq, s.cfg.vecIrq + 1#16]) ∧
    (∀ (vec ret : Word) (brk : Bool), refuses (trapEntry vec ret brk s) [s.sp, down1, down2, vec, vec + 1#16]) ∧
    (s.resetLine = true → ∀ d, firstDevice s [s.cfg.vecReset, s.cfg.vecReset + 1#16] = some d →
      step s = .refused (.deviceAccess d)) ∧
    (∀ j < instrLength (s.mem.read s.pc.toNat), acceptedEvent s = .instruction →
      (∀ i < j, kindAt s (s.pc + BitVec.ofNat 16 i) = .ram ∨ kindAt s (s.pc + BitVec.ofNat 16 i) = .rom) →
      let a := s.pc + BitVec.ofNat 16 j
      (kindAt s a = .device → step s = .refused (.deviceAccess a)) ∧
      (kindAt s a = .unmapped → step s = .refused (.unmappedFetch a))) ∧
    (∀ (k : Nat) (a : Word) (v : Byte), kindAt s a = .unmapped →
      fetchByte a s = .error (.unmappedFetch a) ∧ memWrite a v s = .ok s ∧ (∃ r, memRead k a s = .ok r) ∧
      exec (.staAbs a) s = .next { s with pc := s.pc + 3#16 } ∧
      ∃ r : Byte, exec (.ldaAbs a) s =
        .next { s with a := r, p := { s.p with n := r.getLsbD 7, z := decide (r = 0#8) }, pc := s.pc + 3#16 })

/-- A, X, Y, Z and B change only by the opcodes the access summary lists for them, or by reset -/
def Obligations.RegistersWrittenOnlyAsListed : Prop :=
  ∀ s t : State, step s = .next t →
    (t.a = s.a ∨ acceptedEvent s = .reset ∨ ExecutesOneOf s [0x01#8, 0x05#8, 0x09#8, 0x0A#8, 0x0D#8, 0x11#8, 0x12#8, 0x15#8, 0x19#8, 0x1A#8, 0x1D#8, 0x21#8, 0x25#8, 0x29#8, 0x2A#8, 0x2D#8, 0x31#8, 0x32#8, 0x35#8, 0x39#8, 0x3A#8, 0x3D#8, 0x41#8, 0x42#8, 0x43#8, 0x45#8, 0x49#8, 0x4A#8, 0x4D#8, 0x51#8, 0x52#8, 0x55#8, 0x59#8, 0x5D#8, 0x61#8, 0x65#8, 0x68#8, 0x69#8, 0x6A#8, 0x6B#8, 0x6D#8, 0x71#8, 0x72#8, 0x75#8, 0x79#8, 0x7B#8, 0x7D#8, 0x8A#8, 0x98#8, 0xA1#8, 0xA5#8, 0xA9#8, 0xAD#8, 0xB1#8, 0xB2#8, 0xB5#8, 0xB9#8, 0xBD#8, 0xE1#8, 0xE2#8, 0xE5#8, 0xE9#8, 0xED#8, 0xF1#8, 0xF2#8, 0xF5#8, 0xF9#8, 0xFD#8]) ∧
    (t.x = s.x ∨ acceptedEvent s = .reset ∨ ExecutesOneOf s [0xA2#8, 0xA6#8, 0xAA#8, 0xAE#8, 0xB6#8, 0xBA#8, 0xBE#8, 0xCA#8, 0xE8#8, 0xFA#8]) ∧
    (t.y = s.y ∨ acceptedEvent s = .reset ∨ ExecutesOneOf s [0x0B#8, 0x7A#8, 0x88#8, 0xA0#8, 0xA4#8, 0xA8#8, 0xAC#8, 0xB4#8, 0xBC#8, 0xC8#8]) ∧
    (t.z = s.z ∨ acceptedEvent s = .reset ∨ ExecutesOneOf s [0x1B#8, 0x3B#8, 0x4B#8, 0xA3#8, 0xAB#8, 0xBB#8, 0xFB#8]) ∧
    (t.b = s.b ∨ acceptedEvent s = .reset ∨ ExecutesOneOf s [0x5B#8])

/-- P.E is written only by CLE (to 0), SEE (to 1) and reset (to 1): not by PLP, RTI or a trap entry -/
def Obligations.ExtendDisableWrittenOnlyByCleSeeReset : Prop :=
  ∀ s t : State, step s = .next t →
    (ExecutesOneOf s [0x02#8] → t.p.e = false) ∧ (ExecutesOneOf s [0x03#8] → t.p.e = true) ∧
    (acceptedEvent s = .reset → t.p.e = true) ∧
    (t.p.e = s.p.e ∨ acceptedEvent s = .reset ∨ ExecutesOneOf s [0x02#8, 0x03#8])

/-- V, D and I change only by the instructions and events the spec lists for them -/
def Obligations.OverflowDecimalInterruptWriters : Prop :=
  ∀ s t : State, step s = .next t →
    (t.p.v = s.p.v ∨ acceptedEvent s = .reset ∨ ExecutesOneOf s [0x24#8, 0x28#8, 0x2C#8, 0x34#8, 0x3C#8, 0x40#8, 0x61#8, 0x65#8, 0x69#8, 0x6D#8, 0x71#8, 0x72#8, 0x75#8, 0x79#8, 0x7D#8, 0xB8#8, 0xE1#8, 0xE5#8, 0xE9#8, 0xED#8, 0xF1#8, 0xF2#8, 0xF5#8, 0xF9#8, 0xFD#8]) ∧
    (t.p.d = s.p.d ∨ acceptedEvent s ≠ .instruction ∨ ExecutesOneOf s [0x00#8, 0x28#8, 0x40#8, 0xD8#8, 0xF8#8]) ∧
    (t.p.i = s.p.i ∨ acceptedEvent s ≠ .instruction ∨ ExecutesOneOf s [0x00#8, 0x28#8, 0x40#8, 0x58#8, 0x78#8])

/-- With E = 1 no step but TYS (and reset) changes S.H: the stack stays in its page -/
def Obligations.EightBitStackKeepsItsPage : Prop :=
  ∀ s t : State, step s = .next t → s.p.e = true → acceptedEvent s ≠ .reset →
    hiByte t.sp = hiByte s.sp ∨ ExecutesOneOf s [0x2B#8]

/-- RTI after a trap entry resumes at the stacked address with the stacked flags, whatever the handler did elsewhere -/
def Obligations.TrapEntryThenRtiResumes : Prop :=
  ∀ (s t h : State) (vec ret : Word) (brk : Bool), trapEntry vec ret brk s = .ok t →
    let sp1 := spDown s.p.e s.sp
    let sp2 := spDown s.p.e sp1
    (∀ a ∈ [s.sp, sp1, sp2], kindAt s a = .ram ∧ h.mem.read a.toNat = t.mem.read a.toNat) →
    h.sp = t.sp → h.p.e = t.p.e → h.cfg = t.cfg →
    exec .rti h = .next { h with sp := s.sp, p := s.p, pc := ret }

/-- RTS after JSR (all three forms) or BSR returns to the instruction after the call -/
def Obligations.CallThenRtsReturns : Prop :=
  ∀ (s t h : State) (i : Instr), (encode i).headD 0#8 ∈ [0x20#8, 0x22#8, 0x23#8, 0x63#8] → exec i s = .next t →
    let sp1 := spDown s.p.e s.sp
    (∀ a ∈ [s.sp, sp1], kindAt s a = .ram ∧ h.mem.read a.toNat = t.mem.read a.toNat) →
    h.sp = t.sp → h.p.e = t.p.e → h.cfg = t.cfg →
    exec .rts h = .next { h with sp := s.sp, pc := s.pc + 3#16 }

/-- Effective addresses of a8, a8,X, a8,Y, a16, a16,X, a16,Y: the base-page sums stay in page B, the others wrap at 65536 -/
def Obligations.DirectAddressingModes : Prop :=
  ∀ s : State,
    (∀ a, effectiveAddress (.bp a) s = .ok (BitVec.ofNat 16 (s.b.toNat * 256 + a.toNat))) ∧
    (∀ a, effectiveAddress (.bpX a) s = .ok (BitVec.ofNat 16 (s.b.toNat * 256 + (a.toNat + s.x.toNat) % 256))) ∧
    (∀ a, effectiveAddress (.bpY a) s = .ok (BitVec.ofNat 16 (s.b.toNat * 256 + (a.toNat + s.y.toNat) % 256))) ∧
    (∀ a, effectiveAddress (.abs a) s = .ok a) ∧
    (∀ a, effectiveAddress (.absX a) s = .ok (BitVec.ofNat 16 (a.toNat + s.x.toNat))) ∧
    (∀ a, effectiveAddress (.absY a) s = .ok (BitVec.ofNat 16 (a.toNat + s.y.toNat)))

/-- Effective addresses of (a8,X), (a8),Y, (a8),Z and (a8,S),Y: where the pointer lies and what is added to it -/
def Obligations.IndirectAddressingModes : Prop :=
  ∀ s : State,
    let pageWord := fun off : Byte =>
      (BitVec.ofNat 16 (s.b.toNat * 256 + off.toNat), BitVec.ofNat 16 (s.b.toNat * 256 + (off.toNat + 1) % 256))
    let readable := fun q : Word × Word => Accessible s q.1 ∧ Accessible s q.2
    let word := fun q : Word × Word => wordAt 0 q.1 q.2 s
    (∀ a, let q := pageWord (a + s.x); readable q → effectiveAddress (.indX a) s = .ok (word q)) ∧
    (∀ a, let q := pageWord a; readable q →
      effectiveAddress (.indY a) s = .ok (BitVec.ofNat 16 ((word q).toNat + s.y.toNat)) ∧
      effectiveAddress (.indZ a) s = .ok (BitVec.ofNat 16 ((word q).toNat + s.z.toNat))) ∧
    (∀ d : Byte, let q := (BitVec.ofNat 16 (s.sp.toNat + d.toNat), BitVec.ofNat 16 (s.sp.toNat + d.toNat + 1)); readable q →
      effectiveAddress (.spIndY d) s = .ok (BitVec.ofNat 16 ((word q).toNat + s.y.toNat)))

/-- A read returns the most recent write to a ram address; a write changes no other address and no register -/
def Obligations.ReadAfterWrite : Prop :=
  ∀ (s t : State) (a b : Word) (v : Byte) (k : Nat), memWrite a v s = .ok t →
    (kindAt s a = .ram → memRead k a t = .ok v) ∧
    (b ≠ a → memRead k b t = memRead k b s) ∧
    (kindAt s a ≠ .ram → memRead k b t = memRead k b s) ∧
    t = { s with mem := t.mem }

/-- WORD_RMW_ORDER cannot be observed: both orders of the two writes leave the same memory -/
def Obligations.WordWriteOrderIsUnobservable : Prop :=
  ∀ (s t u : State) (lo hi w : Word), s.mem.wf = true → lo ≠ hi →
    writeWord lo hi w { s with cfg := { s.cfg with wordRmwOrder := .loHi } } = .ok t →
    writeWord lo hi w { s with cfg := { s.cfg with wordRmwOrder := .hiLo } } = .ok u →
    t.mem = u.mem ∧ Stored s [(lo, loByte w), (hi, hiByte w)] t.mem

/-- LDA, LDX, LDY, LDZ in all 23 forms complete: the register gets the operand, N and Z its sign and zero, nothing else changes -/
def Obligations.LoadsSetRegisterAndNZ : Prop :=
  ∀ s : State,
    let nz := fun v : Byte => ({ s.p with n := v.getLsbD 7, z := decide (v = 0#8) } : Flags)
    let runA := fun (i : Instr) (len : Word) (v : Byte) => exec i s = .next { s with a := v, p := nz v, pc := s.pc + len }
    let runX := fun (i : Instr) (len : Word) (v : Byte) => exec i s = .next { s with x := v, p := nz v, pc := s.pc + len }
    let runY := fun (i : Instr) (len : Word) (v : Byte) => exec i s = .next { s with y := v, p := nz v, pc := s.pc + len }
    let runZ := fun (i : Instr) (len : Word) (v : Byte) => exec i s = .next { s with z := v, p := nz v, pc := s.pc + len }
    (∀ (a : Byte), Codes [0xA1#8, a] (.ldaIndX a) ∧ OnOperand (.indX a) s (runA (.ldaIndX a) 2#16)) ∧
    (∀ (a : Byte), Codes [0xA5#8, a] (.ldaBp a) ∧ OnOperand (.bp a) s (runA (.ldaBp a) 2#16)) ∧
    (∀ (d : Byte), Codes [0xA9#8, d] (.ldaImm d) ∧ runA (.ldaImm d) 2#16 d) ∧
    (∀ (a : Word), Codes [0xAD#8, loByte a, hiByte a] (.ldaAbs a) ∧ OnOperand (.abs a) s (runA (.ldaAbs a) 3#16)) ∧
    (∀ (a : Byte), Codes [0xB1#8, a] (.ldaIndY a) ∧ OnOperand (.indY a) s (runA (.ldaIndY a) 2#16)) ∧
    (∀ (a : Byte), Codes [0xB2#8, a] (.ldaIndZ a) ∧ OnOperand (.indZ a) s (runA (.ldaIndZ a) 2#16)) ∧
    (∀ (a : Byte), Codes [0xB5#8, a] (.ldaBpX a) ∧ OnOperand (.bpX a) s (runA (.ldaBpX a) 2#16)) ∧
    (∀ (a : Word), Codes [0xB9#8, loByte a, hiByte a] (.ldaAbsY a) ∧ OnOperand (.absY a) s (runA (.ldaAbsY a) 3#16)) ∧
    (∀ (a : Word), Codes [0xBD#8, loByte a, hiByte a] (.ldaAbsX a) ∧ OnOperand (.absX a) s (runA (.ldaAbsX a) 3#16)) ∧
    (∀ (d : Byte), Codes [0xE2#8, d] (.ldaSpIndY d) ∧ OnOperand (.spIndY d) s (runA (.ldaSpIndY d) 2#16)) ∧
    (∀ (d : Byte), Codes [0xA2#8, d] (.ldxImm d) ∧ runX (.ldxImm d) 2#16 d) ∧
    (∀ (a : Byte), Codes [0xA6#8, a] (.ldxBp a) ∧ OnOperand (.bp a) s (runX (.ldxBp a) 2#16)) ∧
    (∀ (a : Word), Codes [0xAE#8, loByte a, hiByte a] (.ldxAbs a) ∧ OnOperand (.abs a) s (runX (.ldxAbs a) 3#16)) ∧
    (∀ (a : Byte), Codes [0xB6#8, a] (.ldxBpY a) ∧ OnOperand (.bpY a) s (runX (.ldxBpY a) 2#16)) ∧
    (∀ (a : Word), Codes [0xBE#8, loByte a, hiByte a] (.ldxAbsY a) ∧ OnOperand (.absY a) s (runX (.ldxAbsY a) 3#16)) ∧
    (∀ (d : Byte), Codes [0xA0#8, d] (.ldyImm d) ∧ runY (.ldyImm d) 2#16 d) ∧
    (∀ (a : Byte), Codes [0xA4#8, a] (.ldyBp a) ∧ OnOperand (.bp a) s (runY (.ldyBp a) 2#16)) ∧
    (∀ (a : Word), Codes [0xAC#8, loByte a, hiByte a] (.ldyAbs a) ∧ OnOperand (.abs a) s (runY (.ldyAbs a) 3#16)) ∧
    (∀ (a : Byte), Codes [0xB4#8, a] (.ldyBpX a) ∧ OnOperand (.bpX a) s (runY (.ldyBpX a) 2#16)) ∧
    (∀ (a : Word), Codes [0xBC#8, loByte a, hiByte a] (.ldyAbsX a) ∧ OnOperand (.absX a) s (runY (.ldyAbsX a) 3#16)) ∧
    (∀ (d : Byte), Codes [0xA3#8, d] (.ldzImm d) ∧ runZ (.ldzImm d) 2#16 d) ∧
    (∀ (a : Word), Codes [0xAB#8, loByte a, hiByte a] (.ldzAbs a) ∧ OnOperand (.abs a) s (runZ (.ldzAbs a) 3#16)) ∧
    (∀ (a : Word), Codes [0xBB#8, loByte a, hiByte a] (.ldzAbsX a) ∧ OnOperand (.absX a) s (runZ (.ldzAbsX a) 3#16))

/-- STA, STX, STY, STZ in all 21 forms complete: one byte is written at EA, no register, flag or other byte changes -/
def Obligations.StoresWriteOneByte : Prop :=
  ∀ s : State,
    let run := fun (v : Byte) (i : Instr) (len : Word) (ea : Word) =>
      ∃ m, Stored s [(ea, v)] m ∧ exec i s = .next { s with mem := m, pc := s.pc + len }
    (∀ (a : Byte), Codes [0x81#8, a] (.staIndX a) ∧ OnAddress (.indX a) s (run s.a (.staIndX a) 2#16)) ∧
    (∀ (d : Byte), Codes [0x82#8, d] (.staSpIndY d) ∧ OnAddress (.spIndY d) s (run s.a (.staSpIndY d) 2#16)) ∧
    (∀ (a : Byte), Codes [0x85#8, a] (.staBp a) ∧ OnAddress (.bp a) s (run s.a (.staBp a) 2#16)) ∧
    (∀ (a : Word), Codes [0x8D#8, loByte a, hiByte a] (.staAbs a) ∧ OnAddress (.abs a) s (run s.a (.staAbs a) 3#16)) ∧
    (∀ (a : Byte), Codes [0x91#8, a] (.staIndY a) ∧ OnAddress (.indY a) s (run s.a (.staIndY a) 2#16)) ∧
    (∀ (a : Byte), Codes [0x92#8, a] (.staIndZ a) ∧ OnAddress (.indZ a) s (run s.a (.staIndZ a) 2#16)) ∧
    (∀ (a : Byte), Codes [0x95#8, a] (.staBpX a) ∧ OnAddress (.bpX a) s (run s.a (.staBpX a) 2#16)) ∧
    (∀ (a : Word), Codes [0x99#8, loByte a, hiByte a] (.staAbsY a) ∧ OnAddress (.absY a) s (run s.a (.staAbsY a) 3#16)) ∧
    (∀ (a : Word), Codes [0x9D#8, loByte a, hiByte a] (.staAbsX a) ∧ OnAddress (.absX a) s (run s.a (.staAbsX a) 3#16)) ∧
    (∀ (a : Byte), Codes [0x86#8, a] (.stxBp a) ∧ OnAddress (.bp a) s (run s.x (.stxBp a) 2#16)) ∧
    (∀ (a : Word), Codes [0x8E#8, loByte a, hiByte a] (.stxAbs a) ∧ OnAddress (.abs a) s (run s.x (.stxAbs a) 3#16)) ∧
    (∀ (a : Byte), Codes [0x96#8, a] (.stxBpY a) ∧ OnAddress (.bpY a) s (run s.x (.stxBpY a) 2#16)) ∧
    (∀ (a : Word), Codes [0x9B#8, loByte a, hiByte a] (.stxAbsY a) ∧ OnAddress (.absY a) s (run s.x (.stxAbsY a) 3#16)) ∧
    (∀ (a : Byte), Codes [0x84#8, a] (.styBp a) ∧ OnAddress (.bp a) s (run s.y (.styBp a) 2#16)) ∧
    (∀ (a : Word), Codes [0x8B#8, loByte a, hiByte a] (.styAbsX a) ∧ OnAddress (.absX a) s (run s.y (.styAbsX a) 3#16)) ∧
    (∀ (a : Word), Codes [0x8C#8, loByte a, hiByte a] (.styAbs a) ∧ OnAddress (.abs a) s (run s.y (.styAbs a) 3#16)) ∧
    (∀ (a : Byte), Codes [0x94#8, a] (.styBpX a) ∧ OnAddress (.bpX a) s (run s.y (.styBpX a) 2#16)) ∧
    (∀ (a : Byte), Codes [0x64#8, a] (.stzBp a) ∧ OnAddress (.bp a) s (run s.z (.stzBp a) 2#16)) ∧
    (∀ (a : Byte), Codes [0x74#8, a] (.stzBpX a) ∧ OnAddress (.bpX a) s (run s.z (.stzBpX a) 2#16)) ∧
    (∀ (a : Word), Codes [0x9C#8, loByte a, hiByte a] (.stzAbs a) ∧ OnAddress (.abs a) s (run s.z (.stzAbs a) 3#16)) ∧
    (∀ (a : Word), Codes [0x9E#8, loByte a, hiByte a] (.stzAbsX a) ∧ OnAddress (.absX a) s (run s.z (.stzAbsX a) 3#16))

/-- ADC in binary mode, all 9 forms: A + m + C modulo 256, C the carry, V set when A and m agree in sign and the result does not -/
def Obligations.AdcBinaryResult : Prop :=
  ∀ s : State, s.p.d = false →
    let run := fun (i : Instr) (len : Word) (m : Byte) =>
      let t := s.a.toNat + m.toNat + s.p.c.toNat
      let r : Byte := BitVec.ofNat 8 t
      exec i s = .next { s with
        a := r
        p := { s.p with
          n := r.getLsbD 7
          v := (s.a.getLsbD 7 == m.getLsbD 7) && (r.getLsbD 7 != s.a.getLsbD 7)
          z := decide (r = 0#8)
          c := decide (256 ≤ t) }
        pc := s.pc + len }
    (∀ (a : Byte), Codes [0x61#8, a] (.adcIndX a) ∧ OnOperand (.indX a) s (run (.adcIndX a) 2#16)) ∧
    (∀ (a : Byte), Codes [0x65#8, a] (.adcBp a) ∧ OnOperand (.bp a) s (run (.adcBp a) 2#16)) ∧
    (∀ (d : Byte), Codes [0x69#8, d] (.adcImm d) ∧ run (.adcImm d) 2#16 d) ∧
    (∀ (a : Word), Codes [0x6D#8, loByte a, hiByte a] (.adcAbs a) ∧ OnOperand (.abs a) s (run (.adcAbs a) 3#16)) ∧
    (∀ (a : Byte), Codes [0x71#8, a] (.adcIndY a) ∧ OnOperand (.indY a) s (run (.adcIndY a) 2#16)) ∧
    (∀ (a : Byte), Codes [0x72#8, a] (.adcIndZ a) ∧ OnOperand (.indZ a) s (run (.adcIndZ a) 2#16)) ∧
    (∀ (a : Byte), Codes [0x75#8, a] (.adcBpX a) ∧ OnOperand (.bpX a) s (run (.adcBpX a) 2#16)) ∧
    (∀ (a : Word), Codes [0x79#8, loByte a, hiByte a] (.adcAbsY a) ∧ OnOperand (.absY a) s (run (.adcAbsY a) 3#16)) ∧
    (∀ (a : Word), Codes [0x7D#8, loByte a, hiByte a] (.adcAbsX a) ∧ OnOperand (.absX a) s (run (.adcAbsX a) 3#16))

/-- SBC in binary mode, all 9 forms: A + (255 - m) + C modulo 256, C is not-borrow, V set on a signed overflow -/
def Obligations.SbcBinaryResult : Prop :=
  ∀ s : State, s.p.d = false →
    let run := fun (i : Instr) (len : Word) (m : Byte) =>
      let t := s.a.toNat + (255 - m.toNat) + s.p.c.toNat
      let r : Byte := BitVec.ofNat 8 t
      exec i s = .next { s with
        a := r
        p := { s.p with
          n := r.getLsbD 7
          v := (s.a.getLsbD 7 != m.getLsbD 7) && (r.getLsbD 7 != s.a.getLsbD 7)
          z := decide (r = 0#8)
          c := decide (256 ≤ t) }
        pc := s.pc + len }
    (∀ (a : Byte), Codes [0xE1#8, a] (.sbcIndX a) ∧ OnOperand (.indX a) s (run (.sbcIndX a) 2#16)) ∧
    (∀ (a : Byte), Codes [0xE5#8, a] (.sbcBp a) ∧ OnOperand (.bp a) s (run (.sbcBp a) 2#16)) ∧
    (∀ (d : Byte), Codes [0xE9#8, d] (.sbcImm d) ∧ run (.sbcImm d) 2#16 d) ∧
    (∀ (a : Word), Codes [0xED#8, loByte a, hiByte a] (.sbcAbs a) ∧ OnOperand (.abs a) s (run (.sbcAbs a) 3#16)) ∧
    (∀ (a : Byte), Codes [0xF1#8, a] (.sbcIndY a) ∧ OnOperand (.indY a) s (run (.sbcIndY a) 2#16)) ∧
    (∀ (a : Byte), Codes [0xF2#8, a] (.sbcIndZ a) ∧ OnOperand (.indZ a) s (run (.sbcIndZ a) 2#16)) ∧
    (∀ (a : Byte), Codes [0xF5#8, a] (.sbcBpX a) ∧ OnOperand (.bpX a) s (run (.sbcBpX a) 2#16)) ∧
    (∀ (a : Word), Codes [0xF9#8, loByte a, hiByte a] (.sbcAbsY a) ∧ OnOperand (.absY a) s (run (.sbcAbsY a) 3#16)) ∧
    (∀ (a : Word), Codes [0xFD#8, loByte a, hiByte a] (.sbcAbsX a) ∧ OnOperand (.absX a) s (run (.sbcAbsX a) 3#16))

/-- V after binary ADC and SBC is the two's complement overflow, and without it A is the exact signed result -/
def Obligations.BinaryOverflowIsSigned : Prop :=
  ∀ (s : State) (m : Byte), s.p.d = false →
    let sum : Int := s.a.toInt + m.toInt + s.p.c.toNat
    let dif : Int := s.a.toInt - m.toInt - (1 - (s.p.c.toNat : Int))
    (∃ t, exec (.adcImm m) s = .next t ∧ t.p.v = decide (¬ (-128 ≤ sum ∧ sum ≤ 127)) ∧ (t.p.v = false → t.a.toInt = sum)) ∧
    (∃ t, exec (.sbcImm m) s = .next t ∧ t.p.v = decide (¬ (-128 ≤ dif ∧ dif ≤ 127)) ∧ (t.p.v = false → t.a.toInt = dif) ∧
      t.p.c = decide (m.toNat + (1 - s.p.c.toNat) ≤ s.a.toNat))

/-- Decimal ADC and SBC on valid BCD operands, all 18 forms: A and C are exact; nothing is said of N, V, Z -/
def Obligations.DecimalResultOnValidBcd : Prop :=
  ∀ s : State, s.p.d = true → s.a.toNat / 16 ≤ 9 → s.a.toNat % 16 ≤ 9 →
    let val := fun b : Byte => 10 * (b.toNat / 16) + b.toNat % 16
    let bcd := fun q : Nat => BitVec.ofNat 8 (16 * (q / 10) + q % 10)
    let run := fun (r : Byte) (carry : Bool) (i : Instr) (len : Word) =>
      ∃ n v z : Bool, exec i s = .next { s with a := r, p := { s.p with n := n, v := v, z := z, c := carry }, pc := s.pc + len }
    let runAdc := fun (i : Instr) (len : Word) (m : Byte) =>
      m.toNat / 16 ≤ 9 → m.toNat % 16 ≤ 9 →
      let q := val s.a + val m + s.p.c.toNat
      run (bcd (q % 100)) (decide (100 ≤ q)) i len
    let runSbc := fun (i : Instr) (len : Word) (m : Byte) =>
      m.toNat / 16 ≤ 9 → m.toNat % 16 ≤ 9 →
      let q := val s.a + 100 - val m - (1 - s.p.c.toNat)
      run (bcd (q % 100)) (decide (val m + (1 - s.p.c.toNat) ≤ val s.a)) i len
    (∀ (a : Byte), Codes [0x61#8, a] (.adcIndX a) ∧ OnOperand (.indX a) s (runAdc (.adcIndX a) 2#16)) ∧
    (∀ (a : Byte), Codes [0x65#8, a] (.adcBp a) ∧ OnOperand (.bp a) s (runAdc (.adcBp a) 2#16)) ∧
    (∀ (d : Byte), Codes [0x69#8, d] (.adcImm d) ∧ runAdc (.adcImm d) 2#16 d) ∧
    (∀ (a : Word), Codes [0x6D#8, loByte a, hiByte a] (.adcAbs a) ∧ OnOperand (.abs a) s (runAdc (.adcAbs a) 3#16)) ∧
    (∀ (a : Byte), Codes [0x71#8, a] (.adcIndY a) ∧ OnOperand (.indY a) s (runAdc (.adcIndY a) 2#16)) ∧
    (∀ (a : Byte), Codes [0x72#8, a] (.adcIndZ a) ∧ OnOperand (.indZ a) s (runAdc (.adcIndZ a) 2#16)) ∧
    (∀ (a : Byte), Codes [0x75#8, a] (.adcBpX a) ∧ OnOperand (.bpX a) s (runAdc (.adcBpX a) 2#16)) ∧
    (∀ (a : Word), Codes [0x79#8, loByte a, hiByte a] (.adcAbsY a) ∧ OnOperand (.absY a) s (runAdc (.adcAbsY a) 3#16)) ∧
    (∀ (a : Word), Codes [0x7D#8, loByte a, hiByte a] (.adcAbsX a) ∧ OnOperand (.absX a) s (runAdc (.adcAbsX a) 3#16)) ∧
    (∀ (a : Byte), Codes [0xE1#8, a] (.sbcIndX a) ∧ OnOperand (.indX a) s (runSbc (.sbcIndX a) 2#16)) ∧
    (∀ (a : Byte), Codes [0xE5#8, a] (.sbcBp a) ∧ OnOperand (.bp a) s (runSbc (.sbcBp a) 2#16)) ∧
    (∀ (d : Byte), Codes [0xE9#8, d] (.sbcImm d) ∧ runSbc (.sbcImm d) 2#16 d) ∧
    (∀ (a : Word), Codes [0xED#8, loByte a, hiByte a] (.sbcAbs a) ∧ OnOperand (.abs a) s (runSbc (.sbcAbs a) 3#16)) ∧
    (∀ (a : Byte), Codes [0xF1#8, a] (.sbcIndY a) ∧ OnOperand (.indY a) s (runSbc (.sbcIndY a) 2#16)) ∧
    (∀ (a : Byte), Codes [0xF2#8, a] (.sbcIndZ a) ∧ OnOperand (.indZ a) s (runSbc (.sbcIndZ a) 2#16)) ∧
    (∀ (a : Byte), Codes [0xF5#8, a] (.sbcBpX a) ∧ OnOperand (.bpX a) s (runSbc (.sbcBpX a) 2#16)) ∧
    (∀ (a : Word), Codes [0xF9#8, loByte a, hiByte a] (.sbcAbsY a) ∧ OnOperand (.absY a) s (runSbc (.sbcAbsY a) 3#16)) ∧
    (∀ (a : Word), Codes [0xFD#8, loByte a, hiByte a] (.sbcAbsX a) ∧ OnOperand (.absX a) s (runSbc (.sbcAbsX a) 3#16))

/-- Decimal ADC and SBC on an operand that is not valid BCD complete; A, N, V, Z, C hold some values, all else is exact -/
def Obligations.DecimalInvalidBcdCompletes : Prop :=
  ∀ s : State, s.p.d = true →
    let bad := fun b : Byte => 9 < b.toNat / 16 ∨ 9 < b.toNat % 16
    let run := fun (i : Instr) (len : Word) (m : Byte) => (bad s.a ∨ bad m) →
      ∃ (r : Byte) (n v z c : Bool),
        exec i s = .next { s with a := r, p := { s.p with n := n, v := v, z := z, c := c }, pc := s.pc + len }
    (∀ (a : Byte), Codes [0x61#8, a] (.adcIndX a) ∧ OnOperand (.indX a) s (run (.adcIndX a) 2#16)) ∧
    (∀ (a : Byte), Codes [0x65#8, a] (.adcBp a) ∧ OnOperand (.bp a) s (run (.adcBp a) 2#16)) ∧
    (∀ (d : Byte), Codes [0x69#8, d] (.adcImm d) ∧ run (.adcImm d) 2#16 d) ∧
    (∀ (a : Word), Codes [0x6D#8, loByte a, hiByte a] (.adcAbs a) ∧ OnOperand (.abs a) s (run (.adcAbs a) 3#16)) ∧
    (∀ (a : Byte), Codes [0x71#8, a] (.adcIndY a) ∧ OnOperand (.indY a) s (run (.adcIndY a) 2#16)) ∧
    (∀ (a : Byte), Codes [0x72#8, a] (.adcIndZ a) ∧ OnOperand (.indZ a) s (run (.adcIndZ a) 2#16)) ∧
    (∀ (a : Byte), Codes [0x75#8, a] (.adcBpX a) ∧ OnOperand (.bpX a) s (run (.adcBpX a) 2#16)) ∧
    (∀ (a : Word), Codes [0x79#8, loByte a, hiByte a] (.adcAbsY a) ∧ OnOperand (.absY a) s (run (.adcAbsY a) 3#16)) ∧
    (∀ (a : Word), Codes [0x7D#8, loByte a, hiByte a] (.adcAbsX a) ∧ OnOperand (.absX a) s (run (.adcAbsX a) 3#16)) ∧
    (∀ (a : Byte), Codes [0xE1#8, a] (.sbcIndX a) ∧ OnOperand (.indX a) s (run (.sbcIndX a) 2#16)) ∧
    (∀ (a : Byte), Codes [0xE5#8, a] (.sbcBp a) ∧ OnOperand (.bp a) s (run (.sbcBp a) 2#16)) ∧
    (∀ (d : Byte), Codes [0xE9#8, d] (.sbcImm d) ∧ run (.sbcImm d) 2#16 d) ∧
    (∀ (a : Word), Codes [0xED#8, loByte a, hiByte a] (.sbcAbs a) ∧ OnOperand (.abs a) s (run (.sbcAbs a) 3#16)) ∧
    (∀ (a : Byte), Codes [0xF1#8, a] (.sbcIndY a) ∧ OnOperand (.indY a) s (run (.sbcIndY a) 2#16)) ∧
    (∀ (a : Byte), Codes [0xF2#8, a] (.sbcIndZ a) ∧ OnOperand (.indZ a) s (run (.sbcIndZ a) 2#16)) ∧
    (∀ (a : Byte), Codes [0xF5#8, a] (.sbcBpX a) ∧ OnOperand (.bpX a) s (run (.sbcBpX a) 2#16)) ∧
    (∀ (a : Word), Codes [0xF9#8, loByte a, hiByte a] (.sbcAbsY a) ∧ OnOperand (.absY a) s (run (.sbcAbsY a) 3#16)) ∧
    (∀ (a : Word), Codes [0xFD#8, loByte a, hiByte a] (.sbcAbsX a) ∧ OnOperand (.absX a) s (run (.sbcAbsX a) 3#16))

/-- CMP, CPX, CPY, CPZ in all 18 forms: C = (register >= m) unsigned, Z = equality, N = bit 7 of the difference, no register changes -/
def Obligations.ComparesSetFlagsOnly : Prop :=
  ∀ s : State,
    let run := fun (reg : Byte) (i : Instr) (len : Word) (m : Byte) =>
      let r : Byte := BitVec.ofInt 8 ((reg.toNat : Int) - (m.toNat : Int))
      exec i s = .next { s with
        p := { s.p with n := r.getLsbD 7, z := decide (reg = m), c := decide (m.toNat ≤ reg.toNat) }
        pc := s.pc + len }
    (∀ (a : Byte), Codes [0xC1#8, a] (.cmpIndX a) ∧ OnOperand (.indX a) s (run s.a (.cmpIndX a) 2#16)) ∧
    (∀ (a : Byte), Codes [0xC5#8, a] (.cmpBp a) ∧ OnOperand (.bp a) s (run s.a (.cmpBp a) 2#16)) ∧
    (∀ (d : Byte), Codes [0xC9#8, d] (.cmpImm d) ∧ run s.a (.cmpImm d) 2#16 d) ∧
    (∀ (a : Word), Codes [0xCD#8, loByte a, hiByte a] (.cmpAbs a) ∧ OnOperand (.abs a) s (run s.a (.cmpAbs a) 3#16)) ∧
    (∀ (a : Byte), Codes [0xD1#8, a] (.cmpIndY a) ∧ OnOperand (.indY a) s (run s.a (.cmpIndY a) 2#16)) ∧
    (∀ (a : Byte), Codes [0xD2#8, a] (.cmpIndZ a) ∧ OnOperand (.indZ a) s (run s.a (.cmpIndZ a) 2#16)) ∧
    (∀ (a : Byte), Codes [0xD5#8, a] (.cmpBpX a) ∧ OnOperand (.bpX a) s (run s.a (.cmpBpX a) 2#16)) ∧
    (∀ (a : Word), Codes [0xD9#8, loByte a, hiByte a] (.cmpAbsY a) ∧ OnOperand (.absY a) s (run s.a (.cmpAbsY a) 3#16)) ∧
    (∀ (a : Word), Codes [0xDD#8, loByte a, hiByte a] (.cmpAbsX a) ∧ OnOperand (.absX a) s (run s.a (.cmpAbsX a) 3#16)) ∧
    (∀ (d : Byte), Codes [0xE0#8, d] (.cpxImm d) ∧ run s.x (.cpxImm d) 2#16 d) ∧
    (∀ (a : Byte), Codes [0xE4#8, a] (.cpxBp a) ∧ OnOperand (.bp a) s (run s.x (.cpxBp a) 2#16)) ∧
    (∀ (a : Word), Codes [0xEC#8, loByte a, hiByte a] (.cpxAbs a) ∧ OnOperand (.abs a) s (run s.x (.cpxAbs a) 3#16)) ∧
    (∀ (d : Byte), Codes [0xC0#8, d] (.cpyImm d) ∧ run s.y (.cpyImm d) 2#16 d) ∧
    (∀ (a : Byte), Codes [0xC4#8, a] (.cpyBp a) ∧ OnOperand (.bp a) s (run s.y (.cpyBp a) 2#16)) ∧
    (∀ (a : Word), Codes [0xCC#8, loByte a, hiByte a] (.cpyAbs a) ∧ OnOperand (.abs a) s (run s.y (.cpyAbs a) 3#16)) ∧
    (∀ (d : Byte), Codes [0xC2#8, d] (.cpzImm d) ∧ run s.z (.cpzImm d) 2#16 d) ∧
    (∀ (a : Byte), Codes [0xD4#8, a] (.cpzBp a) ∧ OnOperand (.bp a) s (run s.z (.cpzBp a) 2#16)) ∧
    (∀ (a : Word), Codes [0xDC#8, loByte a, hiByte a] (.cpzAbs a) ∧ OnOperand (.abs a) s (run s.z (.cpzAbs a) 3#16))

/-- NEG A: A becomes its two's complement, N and Z follow, C and V are unchanged; 0x80 stays 0x80 -/
def Obligations.NegNegatesAccumulator : Prop :=
  ∀ s : State,
    let r : Byte := BitVec.ofInt 8 (0 - (s.a.toNat : Int))
    Codes [0x42#8] .neg ∧
    exec .neg s = .next { s with a := r, p := { s.p with n := r.getLsbD 7, z := decide (r = 0#8) }, pc := s.pc + 1#16 } ∧
    (s.a ≠ 0x80#8 → r.toInt = - s.a.toInt) ∧ (s.a = 0x80#8 → r = 0x80#8)

/-- AND, ORA, EOR in all 27 forms: bit by bit in A, N and Z from the result, nothing else changes -/
def Obligations.LogicResult : Prop :=
  ∀ s : State,
    let run := fun (f : Bool → Bool → Bool) (i : Instr) (len : Word) (m : Byte) =>
      ∃ r : Byte, (∀ j < 8, r.getLsbD j = f (s.a.getLsbD j) (m.getLsbD j)) ∧
        exec i s = .next { s with a := r, p := { s.p with n := r.getLsbD 7, z := decide (r = 0#8) }, pc := s.pc + len }
    (∀ (a : Byte), Codes [0x21#8, a] (.andIndX a) ∧ OnOperand (.indX a) s (run and (.andIndX a) 2#16)) ∧
    (∀ (a : Byte), Codes [0x25#8, a] (.andBp a) ∧ OnOperand (.bp a) s (run and (.andBp a) 2#16)) ∧
    (∀ (d : Byte), Codes [0x29#8, d] (.andImm d) ∧ run and (.andImm d) 2#16 d) ∧
    (∀ (a : Word), Codes [0x2D#8, loByte a, hiByte a] (.andAbs a) ∧ OnOperand (.abs a) s (run and (.andAbs a) 3#16)) ∧
    (∀ (a : Byte), Codes [0x31#8, a] (.andIndY a) ∧ OnOperand (.indY a) s (run and (.andIndY a) 2#16)) ∧
    (∀ (a : Byte), Codes [0x32#8, a] (.andIndZ a) ∧ OnOperand (.indZ a) s (run and (.andIndZ a) 2#16)) ∧
    (∀ (a : Byte), Codes [0x35#8, a] (.andBpX a) ∧ OnOperand (.bpX a) s (run and (.andBpX a) 2#16)) ∧
    (∀ (a : Word), Codes [0x39#8, loByte a, hiByte a] (.andAbsY a) ∧ OnOperand (.absY a) s (run and (.andAbsY a) 3#16)) ∧
    (∀ (a : Word), Codes [0x3D#8, loByte a, hiByte a] (.andAbsX a) ∧ OnOperand (.absX a) s (run and (.andAbsX a) 3#16)) ∧
    (∀ (a : Byte), Codes [0x01#8, a] (.oraIndX a) ∧ OnOperand (.indX a) s (run or (.oraIndX a) 2#16)) ∧
    (∀ (a : Byte), Codes [0x05#8, a] (.oraBp a) ∧ OnOperand (.bp a) s (run or (.oraBp a) 2#16)) ∧
    (∀ (d : Byte), Codes [0x09#8, d] (.oraImm d) ∧ run or (.oraImm d) 2#16 d) ∧
    (∀ (a : Word), Codes [0x0D#8, loByte a, hiByte a] (.oraAbs a) ∧ OnOperand (.abs a) s (run or (.oraAbs a) 3#16)) ∧
    (∀ (a : Byte), Codes [0x11#8, a] (.oraIndY a) ∧ OnOperand (.indY a) s (run or (.oraIndY a) 2#16)) ∧
    (∀ (a : Byte), Codes [0x12#8, a] (.oraIndZ a) ∧ OnOperand (.indZ a) s (run or (.oraIndZ a) 2#16)) ∧
    (∀ (a : Byte), Codes [0x15#8, a] (.oraBpX a) ∧ OnOperand (.bpX a) s (run or (.oraBpX a) 2#16)) ∧
    (∀ (a : Word), Codes [0x19#8, loByte a, hiByte a] (.oraAbsY a) ∧ OnOperand (.absY a) s (run or (.oraAbsY a) 3#16)) ∧
    (∀ (a : Word), Codes [0x1D#8, loByte a, hiByte a] (.oraAbsX a) ∧ OnOperand (.absX a) s (run or (.oraAbsX a) 3#16)) ∧
    (∀ (a : Byte), Codes [0x41#8, a] (.eorIndX a) ∧ OnOperand (.indX a) s (run xor (.eorIndX a) 2#16)) ∧
    (∀ (a : Byte), Codes [0x45#8, a] (.eorBp a) ∧ OnOperand (.bp a) s (run xor (.eorBp a) 2#16)) ∧
    (∀ (d : Byte), Codes [0x49#8, d] (.eorImm d) ∧ run xor (.eorImm d) 2#16 d) ∧
    (∀ (a : Word), Codes [0x4D#8, loByte a, hiByte a] (.eorAbs a) ∧ OnOperand (.abs a) s (run xor (.eorAbs a) 3#16)) ∧
    (∀ (a : Byte), Codes [0x51#8, a] (.eorIndY a) ∧ OnOperand (.indY a) s (run xor (.eorIndY a) 2#16)) ∧
    (∀ (a : Byte), Codes [0x52#8, a] (.eorIndZ a) ∧ OnOperand (.indZ a) s (run xor (.eorIndZ a) 2#16)) ∧
    (∀ (a : Byte), Codes [0x55#8, a] (.eorBpX a) ∧ OnOperand (.bpX a) s (run xor (.eorBpX a) 2#16)) ∧
    (∀ (a : Word), Codes [0x59#8, loByte a, hiByte a] (.eorAbsY a) ∧ OnOperand (.absY a) s (run xor (.eorAbsY a) 3#16)) ∧
    (∀ (a : Word), Codes [0x5D#8, loByte a, hiByte a] (.eorAbsX a) ∧ OnOperand (.absX a) s (run xor (.eorAbsX a) 3#16))

/-- BIT: Z says that A and the operand share no bit; N and V are the memory operand's bits 7 and 6; BIT #d8 writes Z only -/
def Obligations.BitTestResult : Prop :=
  ∀ s : State,
    let zero := fun m : Byte => decide (s.a &&& m = 0#8)
    let runImm := fun (i : Instr) (len : Word) (m : Byte) =>
      exec i s = .next { s with p := { s.p with z := zero m }, pc := s.pc + len }
    let run := fun (i : Instr) (len : Word) (m : Byte) =>
      exec i s = .next { s with p := { s.p with z := zero m, n := m.getLsbD 7, v := m.getLsbD 6 }, pc := s.pc + len }
    (∀ (a : Byte), Codes [0x24#8, a] (.bitBp a) ∧ OnOperand (.bp a) s (run (.bitBp a) 2#16)) ∧
    (∀ (a : Word), Codes [0x2C#8, loByte a, hiByte a] (.bitAbs a) ∧ OnOperand (.abs a) s (run (.bitAbs a) 3#16)) ∧
    (∀ (a : Byte), Codes [0x34#8, a] (.bitBpX a) ∧ OnOperand (.bpX a) s (run (.bitBpX a) 2#16)) ∧
    (∀ (a : Word), Codes [0x3C#8, loByte a, hiByte a] (.bitAbsX a) ∧ OnOperand (.absX a) s (run (.bitAbsX a) 3#16)) ∧
    (∀ (d : Byte), Codes [0x89#8, d] (.bitImm d) ∧ runImm (.bitImm d) 2#16 d)

/-- TSB and TRB: the bits of A are set or cleared in the byte at EA, Z from the value before, A and everything else unchanged -/
def Obligations.TsbTrbResult : Prop :=
  ∀ s : State,
    let zero := fun v : Byte => decide (s.a &&& v = 0#8)
    let run := fun (f : Bool → Bool → Bool) (i : Instr) (len : Word) (ea : Word) (v : Byte) =>
      ∃ (r : Byte) (m : Memory), (∀ j < 8, r.getLsbD j = f (v.getLsbD j) (s.a.getLsbD j)) ∧ Stored s [(ea, r)] m ∧
        exec i s = .next { s with mem := m, p := { s.p with z := zero v }, pc := s.pc + len }
    (∀ (a : Byte), Codes [0x04#8, a] (.tsbBp a) ∧ OnPlace (.bp a) s (run or (.tsbBp a) 2#16)) ∧
    (∀ (a : Word), Codes [0x0C#8, loByte a, hiByte a] (.tsbAbs a) ∧ OnPlace (.abs a) s (run or (.tsbAbs a) 3#16)) ∧
    (∀ (a : Byte), Codes [0x14#8, a] (.trbBp a) ∧ OnPlace (.bp a) s (run (fun p q => p && !q) (.trbBp a) 2#16)) ∧
    (∀ (a : Word), Codes [0x1C#8, loByte a, hiByte a] (.trbAbs a) ∧ OnPlace (.abs a) s (run (fun p q => p && !q) (.trbAbs a) 3#16))

/-- RMB0 to RMB7 clear and SMB0 to SMB7 set exactly bit n of the base-page byte; no flag and no register changes -/
def Obligations.MemoryBitResetAndSet : Prop :=
  ∀ s : State,
    let run := fun (n : Nat) (b : Bool) (i : Instr) (len : Word) (ea : Word) (v : Byte) =>
      ∃ (r : Byte) (m : Memory), (∀ j < 8, r.getLsbD j = if j = n then b else v.getLsbD j) ∧ Stored s [(ea, r)] m ∧
        exec i s = .next { s with mem := m, pc := s.pc + len }
    (∀ (a : Byte), Codes [0x07#8, a] (.rmb0 a) ∧ OnPlace (.bp a) s (run 0 false (.rmb0 a) 2#16)) ∧
    (∀ (a : Byte), Codes [0x17#8, a] (.rmb1 a) ∧ OnPlace (.bp a) s (run 1 false (.rmb1 a) 2#16)) ∧
    (∀ (a : Byte), Codes [0x27#8, a] (.rmb2 a) ∧ OnPlace (.bp a) s (run 2 false (.rmb2 a) 2#16)) ∧
    (∀ (a : Byte), Codes [0x37#8, a] (.rmb3 a) ∧ OnPlace (.bp a) s (run 3 false (.rmb3 a) 2#16)) ∧
    (∀ (a : Byte), Codes [0x47#8, a] (.rmb4 a) ∧ OnPlace (.bp a) s (run 4 false (.rmb4 a) 2#16)) ∧
    (∀ (a : Byte), Codes [0x57#8, a] (.rmb5 a) ∧ OnPlace (.bp a) s (run 5 false (.rmb5 a) 2#16)) ∧
    (∀ (a : Byte), Codes [0x67#8, a] (.rmb6 a) ∧ OnPlace (.bp a) s (run 6 false (.rmb6 a) 2#16)) ∧
    (∀ (a : Byte), Codes [0x77#8, a] (.rmb7 a) ∧ OnPlace (.bp a) s (run 7 false (.rmb7 a) 2#16)) ∧
    (∀ (a : Byte), Codes [0x87#8, a] (.smb0 a) ∧ OnPlace (.bp a) s (run 0 true (.smb0 a) 2#16)) ∧
    (∀ (a : Byte), Codes [0x97#8, a] (.smb1 a) ∧ OnPlace (.bp a) s (run 1 true (.smb1 a) 2#16)) ∧
    (∀ (a : Byte), Codes [0xA7#8, a] (.smb2 a) ∧ OnPlace (.bp a) s (run 2 true (.smb2 a) 2#16)) ∧
    (∀ (a : Byte), Codes [0xB7#8, a] (.smb3 a) ∧ OnPlace (.bp a) s (run 3 true (.smb3 a) 2#16)) ∧
    (∀ (a : Byte), Codes [0xC7#8, a] (.smb4 a) ∧ OnPlace (.bp a) s (run 4 true (.smb4 a) 2#16)) ∧
    (∀ (a : Byte), Codes [0xD7#8, a] (.smb5 a) ∧ OnPlace (.bp a) s (run 5 true (.smb5 a) 2#16)) ∧
    (∀ (a : Byte), Codes [0xE7#8, a] (.smb6 a) ∧ OnPlace (.bp a) s (run 6 true (.smb6 a) 2#16)) ∧
    (∀ (a : Byte), Codes [0xF7#8, a] (.smb7 a) ∧ OnPlace (.bp a) s (run 7 true (.smb7 a) 2#16))

/-- ASL and LSR in all 10 forms: the operand doubled modulo 256 or halved, C the bit shifted out, N and Z from the result -/
def Obligations.AslLsrResult : Prop :=
  ∀ s : State,
    (let res := fun v : Byte => BitVec.ofNat 8 (v.toNat * 2)
    let fl := fun v : Byte => ({ s.p with n := (res v).getLsbD 7, z := decide (res v = 0#8), c := v.getLsbD 7 } : Flags)
    let runA := fun (i : Instr) (len : Word) => exec i s = .next { s with a := res s.a, p := fl s.a, pc := s.pc + len }
    let run := fun (i : Instr) (len : Word) (ea : Word) (v : Byte) =>
      ∃ m, Stored s [(ea, res v)] m ∧ exec i s = .next { s with mem := m, p := fl v, pc := s.pc + len }
    (∀ (a : Byte), Codes [0x06#8, a] (.aslBp a) ∧ OnPlace (.bp a) s (run (.aslBp a) 2#16)) ∧
    (Codes [0x0A#8] (.aslA) ∧ runA .aslA 1#16) ∧
    (∀ (a : Word), Codes [0x0E#8, loByte a, hiByte a] (.aslAbs a) ∧ OnPlace (.abs a) s (run (.aslAbs a) 3#16)) ∧
    (∀ (a : Byte), Codes [0x16#8, a] (.aslBpX a) ∧ OnPlace (.bpX a) s (run (.aslBpX a) 2#16)) ∧
    (∀ (a : Word), Codes [0x1E#8, loByte a, hiByte a] (.aslAbsX a) ∧ OnPlace (.absX a) s (run (.aslAbsX a) 3#16))) ∧
    (let res := fun v : Byte => BitVec.ofNat 8 (v.toNat / 2)
    let fl := fun v : Byte => ({ s.p with n := (res v).getLsbD 7, z := decide (res v = 0#8), c := v.getLsbD 0 } : Flags)
    let runA := fun (i : Instr) (len : Word) => exec i s = .next { s with a := res s.a, p := fl s.a, pc := s.pc + len }
    let run := fun (i : Instr) (len : Word) (ea : Word) (v : Byte) =>
      ∃ m, Stored s [(ea, res v)] m ∧ exec i s = .next { s with mem := m, p := fl v, pc := s.pc + len }
    (∀ (a : Byte), Codes [0x46#8, a] (.lsrBp a) ∧ OnPlace (.bp a) s (run (.lsrBp a) 2#16)) ∧
    (Codes [0x4A#8] (.lsrA) ∧ runA .lsrA 1#16) ∧
    (∀ (a : Word), Codes [0x4E#8, loByte a, hiByte a] (.lsrAbs a) ∧ OnPlace (.abs a) s (run (.lsrAbs a) 3#16)) ∧
    (∀ (a : Byte), Codes [0x56#8, a] (.lsrBpX a) ∧ OnPlace (.bpX a) s (run (.lsrBpX a) 2#16)) ∧
    (∀ (a : Word), Codes [0x5E#8, loByte a, hiByte a] (.lsrAbsX a) ∧ OnPlace (.absX a) s (run (.lsrAbsX a) 3#16)))

/-- ROL and ROR in all 10 forms: rotation through the carry, N and Z from the result -/
def Obligations.RolRorResult : Prop :=
  ∀ s : State,
    (let res := fun v : Byte => BitVec.ofNat 8 (v.toNat * 2 % 256 + s.p.c.toNat)
    let fl := fun v : Byte => ({ s.p with n := (res v).getLsbD 7, z := decide (res v = 0#8), c := v.getLsbD 7 } : Flags)
    let runA := fun (i : Instr) (len : Word) => exec i s = .next { s with a := res s.a, p := fl s.a, pc := s.pc + len }
    let run := fun (i : Instr) (len : Word) (ea : Word) (v : Byte) =>
      ∃ m, Stored s [(ea, res v)] m ∧ exec i s = .next { s with mem := m, p := fl v, pc := s.pc + len }
    (∀ (a : Byte), Codes [0x26#8, a] (.rolBp a) ∧ OnPlace (.bp a) s (run (.rolBp a) 2#16)) ∧
    (Codes [0x2A#8] (.rolA) ∧ runA .rolA 1#16) ∧
    (∀ (a : Word), Codes [0x2E#8, loByte a, hiByte a] (.rolAbs a) ∧ OnPlace (.abs a) s (run (.rolAbs a) 3#16)) ∧
    (∀ (a : Byte), Codes [0x36#8, a] (.rolBpX a) ∧ OnPlace (.bpX a) s (run (.rolBpX a) 2#16)) ∧
    (∀ (a : Word), Codes [0x3E#8, loByte a, hiByte a] (.rolAbsX a) ∧ OnPlace (.absX a) s (run (.rolAbsX a) 3#16))) ∧
    (let res := fun v : Byte => BitVec.ofNat 8 (v.toNat / 2 + 128 * s.p.c.toNat)
    let fl := fun v : Byte => ({ s.p with n := (res v).getLsbD 7, z := decide (res v = 0#8), c := v.getLsbD 0 } : Flags)
    let runA := fun (i : Instr) (len : Word) => exec i s = .next { s with a := res s.a, p := fl s.a, pc := s.pc + len }
    let run := fun (i : Instr) (len : Word) (ea : Word) (v : Byte) =>
      ∃ m, Stored s [(ea, res v)] m ∧ exec i s = .next { s with mem := m, p := fl v, pc := s.pc + len }
    (∀ (a : Byte), Codes [0x66#8, a] (.rorBp a) ∧ OnPlace (.bp a) s (run (.rorBp a) 2#16)) ∧
    (Codes [0x6A#8] (.rorA) ∧ runA .rorA 1#16) ∧
    (∀ (a : Word), Codes [0x6E#8, loByte a, hiByte a] (.rorAbs a) ∧ OnPlace (.abs a) s (run (.rorAbs a) 3#16)) ∧
    (∀ (a : Byte), Codes [0x76#8, a] (.rorBpX a) ∧ OnPlace (.bpX a) s (run (.rorBpX a) 2#16)) ∧
    (∀ (a : Word), Codes [0x7E#8, loByte a, hiByte a] (.rorAbsX a) ∧ OnPlace (.absX a) s (run (.rorAbsX a) 3#16)))

/-- ASR in its 3 forms: halved with bit 7 kept, C = bit 0, N = bit 7, V unchanged -/
def Obligations.AsrResult : Prop :=
  ∀ s : State,
    (let res := fun v : Byte => BitVec.ofNat 8 (v.toNat / 2 + 128 * (v.getLsbD 7).toNat)
    let fl := fun v : Byte => ({ s.p with n := (res v).getLsbD 7, z := decide (res v = 0#8), c := v.getLsbD 0 } : Flags)
    let runA := fun (i : Instr) (len : Word) => exec i s = .next { s with a := res s.a, p := fl s.a, pc := s.pc + len }
    let run := fun (i : Instr) (len : Word) (ea : Word) (v : Byte) =>
      ∃ m, Stored s [(ea, res v)] m ∧ exec i s = .next { s with mem := m, p := fl v, pc := s.pc + len }
    (Codes [0x43#8] (.asrA) ∧ runA .asrA 1#16) ∧
    (∀ (a : Byte), Codes [0x44#8, a] (.asrBp a) ∧ OnPlace (.bp a) s (run (.asrBp a) 2#16)) ∧
    (∀ (a : Byte), Codes [0x54#8, a] (.asrBpX a) ∧ OnPlace (.bpX a) s (run (.asrBpX a) 2#16)))

/-- ASW and ROW: the word at a16 shifted or rotated left by one through bit 15 and C, in memory only -/
def Obligations.WordShiftResult : Prop :=
  ∀ s : State,
    let run := fun (f : Nat → Word) (cout : Word → Bool) (i : Instr) (len lo hi : Word) => Accessible s lo → Accessible s hi →
      let w := wordAt 2 lo hi s
      let r := f w.toNat
      ∃ m, Stored s [(lo, loByte r), (hi, hiByte r)] m ∧ exec i s = .next { s with
        mem := m
        p := { s.p with n := r.getLsbD 15, z := decide (r = 0#16), c := cout w }
        pc := s.pc + len }
    (∀ (a : Word), Codes [0xCB#8, loByte a, hiByte a] (.asw a) ∧ run (fun w => BitVec.ofNat 16 (w * 2)) (fun w => w.getLsbD 15) (.asw a) 3#16 (a) (a + 1#16)) ∧
    (∀ (a : Word), Codes [0xEB#8, loByte a, hiByte a] (.row a) ∧ run (fun w => BitVec.ofNat 16 (w * 2 % 65536 + s.p.c.toNat)) (fun w => w.getLsbD 15) (.row a) 3#16 (a) (a + 1#16))

/-- INC and DEC in all 10 forms: the operand plus or minus 1 modulo 256, N and Z only -/
def Obligations.IncDecResult : Prop :=
  ∀ s : State,
    (let res := fun v : Byte => BitVec.ofNat 8 (v.toNat + 1)
    let fl := fun v : Byte => ({ s.p with n := (res v).getLsbD 7, z := decide (res v = 0#8) } : Flags)
    let runA := fun (i : Instr) (len : Word) => exec i s = .next { s with a := res s.a, p := fl s.a, pc := s.pc + len }
    let run := fun (i : Instr) (len : Word) (ea : Word) (v : Byte) =>
      ∃ m, Stored s [(ea, res v)] m ∧ exec i s = .next { s with mem := m, p := fl v, pc := s.pc + len }
    (Codes [0x1A#8] (.incA) ∧ runA .incA 1#16) ∧
    (∀ (a : Byte), Codes [0xE6#8, a] (.incBp a) ∧ OnPlace (.bp a) s (run (.incBp a) 2#16)) ∧
    (∀ (a : Word), Codes [0xEE#8, loByte a, hiByte a] (.incAbs a) ∧ OnPlace (.abs a) s (run (.incAbs a) 3#16)) ∧
    (∀ (a : Byte), Codes [0xF6#8, a] (.incBpX a) ∧ OnPlace (.bpX a) s (run (.incBpX a) 2#16)) ∧
    (∀ (a : Word), Codes [0xFE#8, loByte a, hiByte a] (.incAbsX a) ∧ OnPlace (.absX a) s (run (.incAbsX a) 3#16))) ∧
    (let res := fun v : Byte => BitVec.ofInt 8 ((v.toNat : Int) - 1)
    let fl := fun v : Byte => ({ s.p with n := (res v).getLsbD 7, z := decide (res v = 0#8) } : Flags)
    let runA := fun (i : Instr) (len : Word) => exec i s = .next { s with a := res s.a, p := fl s.a, pc := s.pc + len }
    let run := fun (i : Instr) (len : Word) (ea : Word) (v : Byte) =>
      ∃ m, Stored s [(ea, res v)] m ∧ exec i s = .next { s with mem := m, p := fl v, pc := s.pc + len }
    (Codes [0x3A#8] (.decA) ∧ runA .decA 1#16) ∧
    (∀ (a : Byte), Codes [0xC6#8, a] (.decBp a) ∧ OnPlace (.bp a) s (run (.decBp a) 2#16)) ∧
    (∀ (a : Word), Codes [0xCE#8, loByte a, hiByte a] (.decAbs a) ∧ OnPlace (.abs a) s (run (.decAbs a) 3#16)) ∧
    (∀ (a : Byte), Codes [0xD6#8, a] (.decBpX a) ∧ OnPlace (.bpX a) s (run (.decBpX a) 2#16)) ∧
    (∀ (a : Word), Codes [0xDE#8, loByte a, hiByte a] (.decAbsX a) ∧ OnPlace (.absX a) s (run (.decAbsX a) 3#16)))

/-- INX INY INZ DEX DEY DEZ: the register plus or minus 1 modulo 256, N and Z from it, nothing else -/
def Obligations.IndexIncDecResult : Prop :=
  ∀ s : State,
    let inc := fun v : Byte => BitVec.ofNat 8 (v.toNat + 1)
    let dec := fun v : Byte => BitVec.ofInt 8 ((v.toNat : Int) - 1)
    let nz := fun v : Byte => ({ s.p with n := v.getLsbD 7, z := decide (v = 0#8) } : Flags)
    (Codes [0xE8#8] (.inx) ∧ exec .inx s = .next { s with x := inc s.x, p := nz (inc s.x), pc := s.pc + 1#16 }) ∧
    (Codes [0xC8#8] (.iny) ∧ exec .iny s = .next { s with y := inc s.y, p := nz (inc s.y), pc := s.pc + 1#16 }) ∧
    (Codes [0x1B#8] (.inz) ∧ exec .inz s = .next { s with z := inc s.z, p := nz (inc s.z), pc := s.pc + 1#16 }) ∧
    (Codes [0xCA#8] (.dex) ∧ exec .dex s = .next { s with x := dec s.x, p := nz (dec s.x), pc := s.pc + 1#16 }) ∧
    (Codes [0x88#8] (.dey) ∧ exec .dey s = .next { s with y := dec s.y, p := nz (dec s.y), pc := s.pc + 1#16 }) ∧
    (Codes [0x3B#8] (.dez) ∧ exec .dez s = .next { s with z := dec s.z, p := nz (dec s.z), pc := s.pc + 1#16 })

/-- INW and DEW: the base-page word plus or minus 1 modulo 65536, N and Z of the 16-bit result, C untouched -/
def Obligations.WordIncDecResult : Prop :=
  ∀ s : State,
    let run := fun (f : Nat → Word) (i : Instr) (len lo hi : Word) => Accessible s lo → Accessible s hi →
      let w := wordAt 2 lo hi s
      let r := f w.toNat
      ∃ m, Stored s [(lo, loByte r), (hi, hiByte r)] m ∧ exec i s = .next { s with
        mem := m
        p := { s.p with n := r.getLsbD 15, z := decide (r = 0#16) }
        pc := s.pc + len }
    (∀ (a : Byte), Codes [0xE3#8, a] (.inw a) ∧ run (fun w => BitVec.ofNat 16 (w + 1)) (.inw a) 2#16 (BitVec.ofNat 16 (s.b.toNat * 256 + a.toNat)) (BitVec.ofNat 16 (s.b.toNat * 256 + (a.toNat + 1) % 256))) ∧
    (∀ (a : Byte), Codes [0xC3#8, a] (.dew a) ∧ run (fun w => BitVec.ofInt 16 ((w : Int) - 1)) (.dew a) 2#16 (BitVec.ofNat 16 (s.b.toNat * 256 + a.toNat)) (BitVec.ofNat 16 (s.b.toNat * 256 + (a.toNat + 1) % 256)))

/-- CLC SEC CLD SED CLI SEI CLV CLE SEE write exactly their flag and advance PC by 1 -/
def Obligations.FlagInstructionsWriteOneFlag : Prop :=
  ∀ s : State,
    (Codes [0x18#8] (.clc) ∧ exec .clc s = .next { s with p := { s.p with c := false }, pc := s.pc + 1#16 }) ∧
    (Codes [0x38#8] (.sec) ∧ exec .sec s = .next { s with p := { s.p with c := true }, pc := s.pc + 1#16 }) ∧
    (Codes [0xD8#8] (.cld) ∧ exec .cld s = .next { s with p := { s.p with d := false }, pc := s.pc + 1#16 }) ∧
    (Codes [0xF8#8] (.sed) ∧ exec .sed s = .next { s with p := { s.p with d := true }, pc := s.pc + 1#16 }) ∧
    (Codes [0x58#8] (.cli) ∧ exec .cli s = .next { s with p := { s.p with i := false }, pc := s.pc + 1#16 }) ∧
    (Codes [0x78#8] (.sei) ∧ exec .sei s = .next { s with p := { s.p with i := true }, pc := s.pc + 1#16 }) ∧
    (Codes [0xB8#8] (.clv) ∧ exec .clv s = .next { s with p := { s.p with v := false }, pc := s.pc + 1#16 }) ∧
    (Codes [0x02#8] (.cle) ∧ exec .cle s = .next { s with p := { s.p with e := false }, pc := s.pc + 1#16 }) ∧
    (Codes [0x03#8] (.see) ∧ exec .see s = .next { s with p := { s.p with e := true }, pc := s.pc + 1#16 })

/-- The 12 transfers copy one byte; those into A, X, Y, Z set N and Z, those into S and B set no flag -/
def Obligations.TransfersCopyOneByte : Prop :=
  ∀ s : State,
    let nz := fun v : Byte => ({ s.p with n := v.getLsbD 7, z := decide (v = 0#8) } : Flags)
    (Codes [0xAA#8] (.tax) ∧ exec .tax s = .next { s with x := s.a, p := nz (s.a), pc := s.pc + 1#16 }) ∧
    (Codes [0xA8#8] (.tay) ∧ exec .tay s = .next { s with y := s.a, p := nz (s.a), pc := s.pc + 1#16 }) ∧
    (Codes [0x8A#8] (.txa) ∧ exec .txa s = .next { s with a := s.x, p := nz (s.x), pc := s.pc + 1#16 }) ∧
    (Codes [0x98#8] (.tya) ∧ exec .tya s = .next { s with a := s.y, p := nz (s.y), pc := s.pc + 1#16 }) ∧
    (Codes [0xBA#8] (.tsx) ∧ exec .tsx s = .next { s with x := BitVec.ofNat 8 s.sp.toNat, p := nz (BitVec.ofNat 8 s.sp.toNat), pc := s.pc + 1#16 }) ∧
    (Codes [0x4B#8] (.taz) ∧ exec .taz s = .next { s with z := s.a, p := nz (s.a), pc := s.pc + 1#16 }) ∧
    (Codes [0x6B#8] (.tza) ∧ exec .tza s = .next { s with a := s.z, p := nz (s.z), pc := s.pc + 1#16 }) ∧
    (Codes [0x7B#8] (.tba) ∧ exec .tba s = .next { s with a := s.b, p := nz (s.b), pc := s.pc + 1#16 }) ∧
    (Codes [0x0B#8] (.tsy) ∧ exec .tsy s = .next { s with y := BitVec.ofNat 8 (s.sp.toNat / 256), p := nz (BitVec.ofNat 8 (s.sp.toNat / 256)), pc := s.pc + 1#16 }) ∧
    (Codes [0x9A#8] (.txs) ∧ exec .txs s = .next { s with sp := BitVec.ofNat 16 (s.sp.toNat / 256 * 256 + s.x.toNat), pc := s.pc + 1#16 }) ∧
    (Codes [0x2B#8] (.tys) ∧ exec .tys s = .next { s with sp := BitVec.ofNat 16 (s.y.toNat * 256 + s.sp.toNat % 256), pc := s.pc + 1#16 }) ∧
    (Codes [0x5B#8] (.tab) ∧ exec .tab s = .next { s with b := s.a, pc := s.pc + 1#16 })

/-- PHA PHX PHY PHZ PHP write the byte at S and count S down in the width E selects; no flag changes -/
def Obligations.PushesStoreAtStackPointer : Prop :=
  ∀ s : State, Accessible s s.sp →
    let run := fun (i : Instr) (v : Byte) =>
      ∃ m, Stored s [(s.sp, v)] m ∧ exec i s = .next { s with mem := m, sp := spDown s.p.e s.sp, pc := s.pc + 1#16 }
    (Codes [0x48#8] (.pha) ∧ run .pha s.a) ∧
    (Codes [0xDA#8] (.phx) ∧ run .phx s.x) ∧
    (Codes [0x5A#8] (.phy) ∧ run .phy s.y) ∧
    (Codes [0xDB#8] (.phz) ∧ run .phz s.z) ∧
    (Codes [0x08#8] (.php) ∧ run .php (statusByte s.p true))

/-- PHW pushes its word as two bytes in the order PHW_ORDER says, high first by default; no flag changes -/
def Obligations.PhwPushesTwoBytes : Prop :=
  ∀ s : State, Accessible s s.sp → Accessible s (spDown s.p.e s.sp) →
    let sp1 := spDown s.p.e s.sp
    let run := fun (i : Instr) (w : Word) =>
      let first := if s.cfg.phwOrder = .highFirst then hiByte w else loByte w
      let second := if s.cfg.phwOrder = .highFirst then loByte w else hiByte w
      ∃ m, Stored s [(s.sp, first), (sp1, second)] m ∧
        exec i s = .next { s with mem := m, sp := spDown s.p.e sp1, pc := s.pc + 3#16 }
    (∀ (d : Word), Codes [0xF4#8, loByte d, hiByte d] (.phwImmWord d) ∧ run (.phwImmWord d) d) ∧
    (∀ (a : Word), Codes [0xFC#8, loByte a, hiByte a] (.phwAbs a) ∧
      (Accessible s a → Accessible s (a + 1#16) → run (.phwAbs a) (wordAt 2 a (a + 1#16) s)))

/-- PLA PLX PLY PLZ PLP count S up, read the byte there and set the register and N, Z, or the flags other than E -/
def Obligations.PullsReadAboveStackPointer : Prop :=
  ∀ s : State, Accessible s (spUp s.p.e s.sp 1) →
    let sp1 := spUp s.p.e s.sp 1
    let v := peek 0 sp1 s
    (Codes [0x68#8] (.pla) ∧ exec .pla s = .next { s with a := v, p := { s.p with n := v.getLsbD 7, z := decide (v = 0#8) }, sp := sp1, pc := s.pc + 1#16 }) ∧
    (Codes [0xFA#8] (.plx) ∧ exec .plx s = .next { s with x := v, p := { s.p with n := v.getLsbD 7, z := decide (v = 0#8) }, sp := sp1, pc := s.pc + 1#16 }) ∧
    (Codes [0x7A#8] (.ply) ∧ exec .ply s = .next { s with y := v, p := { s.p with n := v.getLsbD 7, z := decide (v = 0#8) }, sp := sp1, pc := s.pc + 1#16 }) ∧
    (Codes [0xFB#8] (.plz) ∧ exec .plz s = .next { s with z := v, p := { s.p with n := v.getLsbD 7, z := decide (v = 0#8) }, sp := sp1, pc := s.pc + 1#16 }) ∧
    (Codes [0x28#8] (.plp) ∧ exec .plp s = .next { s with
      p := { n := v.getLsbD 7, v := v.getLsbD 6, e := s.p.e, d := v.getLsbD 3, i := v.getLsbD 2, z := v.getLsbD 1, c := v.getLsbD 0 }
      sp := sp1
      pc := s.pc + 1#16 })

/-- JMP a16, (a16), (a16,X) go to the address or through the pointer, which wraps at 65536 only, and change nothing else -/
def Obligations.JumpsGoToTarget : Prop :=
  ∀ s : State,
    (∀ (a : Word), Codes [0x4C#8, loByte a, hiByte a] (.jmpAbs a) ∧ exec (.jmpAbs a) s = .next { s with pc := a }) ∧
    (∀ (a : Word), Codes [0x6C#8, loByte a, hiByte a] (.jmpAbsInd a) ∧ (Accessible s a → Accessible s (a + 1#16) →
      exec (.jmpAbsInd a) s = .next { s with pc := wordAt 0 a (a + 1#16) s })) ∧
    (∀ (a : Word), Codes [0x7C#8, loByte a, hiByte a] (.jmpAbsXInd a) ∧
      (let q : Word := BitVec.ofNat 16 (a.toNat + s.x.toNat)
      Accessible s q → Accessible s (q + 1#16) → exec (.jmpAbsXInd a) s = .next { s with pc := wordAt 0 q (q + 1#16) s }))

/-- JSR (three forms) and BSR push opaddr + 2, high byte first, then go to the target; a pointer is read after the pushes -/
def Obligations.CallsPushReturnAddress : Prop :=
  ∀ s : State, Accessible s s.sp → Accessible s (spDown s.p.e s.sp) →
    let sp1 := spDown s.p.e s.sp
    let ret : Word := BitVec.ofNat 16 (s.pc.toNat + 2)
    ∃ m, Stored s [(s.sp, hiByte ret), (sp1, loByte ret)] m ∧
    (let u : State := { s with mem := m, sp := spDown s.p.e sp1 }
    (∀ (a : Word), Codes [0x20#8, loByte a, hiByte a] (.jsrAbs a) ∧ exec (.jsrAbs a) s = .next { u with pc := a }) ∧
    (∀ (a : Word), Codes [0x22#8, loByte a, hiByte a] (.jsrAbsInd a) ∧ (Accessible s a → Accessible s (a + 1#16) →
      exec (.jsrAbsInd a) s = .next { u with pc := wordAt 0 a (a + 1#16) u })) ∧
    (∀ (a : Word), Codes [0x23#8, loByte a, hiByte a] (.jsrAbsXInd a) ∧
      (let q : Word := BitVec.ofNat 16 (a.toNat + s.x.toNat)
      Accessible s q → Accessible s (q + 1#16) → exec (.jsrAbsXInd a) s = .next { u with pc := wordAt 0 q (q + 1#16) u })) ∧
    (∀ (r : Word), Codes [0x63#8, loByte r, hiByte r] (.bsr r) ∧ exec (.bsr r) s = .next { u with pc := BitVec.ofNat 16 (s.pc.toNat + 2 + r.toNat) }))

/-- RTS pulls PC low and high and adds 1; RTN does so and adds its operand to S, before or after as RTN_ORDER says -/
def Obligations.ReturnsPullAddressPlusOne : Prop :=
  ∀ (s : State) (d : Byte),
    let order := s.cfg.rtnOrder.getD Config.openRtnOrder
    let base := fun k : Nat => spUp s.p.e s.sp k
    let ret := fun q : Nat => BitVec.ofNat 16 ((wordAt 0 (base (q + 1)) (base (q + 2)) s).toNat + 1)
    let before := if order = .adjustThenPull then d.toNat else 0
    Codes [0x60#8] .rts ∧ Codes [0x62#8, d] (.rtn d) ∧
    (Accessible s (base 1) → Accessible s (base 2) →
      exec .rts s = .next { s with sp := base 2, pc := ret 0 } ∧ exec (.rtn 0#8) s = exec .rts s) ∧
    (Accessible s (base (before + 1)) → Accessible s (base (before + 2)) →
      exec (.rtn d) s = .next { s with sp := base (d.toNat + 2), pc := ret before })

/-- RTI pulls N V D I Z C, then PC low and high, adds nothing to PC, and keeps E -/
def Obligations.RtiRestoresFlagsAndPc : Prop :=
  ∀ s : State,
    let a1 := spUp s.p.e s.sp 1
    let a2 := spUp s.p.e s.sp 2
    let a3 := spUp s.p.e s.sp 3
    let b := peek 0 a1 s
    Codes [0x40#8] .rti ∧
    (Accessible s a1 → Accessible s a2 → Accessible s a3 →
      exec .rti s = .next { s with
        p := { n := b.getLsbD 7, v := b.getLsbD 6, e := s.p.e, d := b.getLsbD 3, i := b.getLsbD 2, z := b.getLsbD 1, c := b.getLsbD 0 }
        sp := a3
        pc := wordAt 1 a2 a3 s })

/-- BRK takes Break, not masked by I: opaddr + 2 and the status byte with bit 4 = 1 are stacked, I set, D cleared -/
def Obligations.BrkTakesBreak : Prop :=
  ∀ (s : State) (k : Byte), Codes [0x00#8, k] (.brk k) ∧
    (TrapAccessible s s.cfg.vecIrq →
      ∃ t, EntersTrap s s.cfg.vecIrq (BitVec.ofNat 16 (s.pc.toNat + 2)) true t ∧ exec (.brk k) s = .next t)

/-- NOP advances PC by 1, AUG by 4 past three skipped bytes whatever they hold; nothing else changes -/
def Obligations.NopAndAugOnlyAdvance : Prop :=
  ∀ s : State,
    (Codes [0xEA#8] .nop ∧ exec .nop s = .next { s with pc := s.pc + 1#16 }) ∧
    (∀ b1 b2 b3 : Byte, Codes [0x5C#8, b1, b2, b3] (.aug b1 b2 b3) ∧ exec (.aug b1 b2 b3) s = .next { s with pc := s.pc + 4#16 })

/-- The nine branches in r8 and r16: from opaddr + 2 by the displacement where the flag says so, else past the instruction -/
def Obligations.BranchesGoToTarget : Prop :=
  ∀ s : State,
    let short := fun (cond : Bool) (i : Instr) (r : Byte) => exec i s = .next { s with
      pc := if cond then BitVec.ofInt 16 ((s.pc.toNat : Int) + 2 + r.toInt) else BitVec.ofNat 16 (s.pc.toNat + 2) }
    let long := fun (cond : Bool) (i : Instr) (r : Word) => exec i s = .next { s with
      pc := if cond then BitVec.ofNat 16 (s.pc.toNat + 2 + r.toNat) else BitVec.ofNat 16 (s.pc.toNat + 3) }
    (∀ (r : Byte), Codes [0x10#8, r] (.bplR8 r) ∧ short (!s.p.n) (.bplR8 r) r) ∧
    (∀ (r : Word), Codes [0x13#8, loByte r, hiByte r] (.bplR16 r) ∧ long (!s.p.n) (.bplR16 r) r) ∧
    (∀ (r : Byte), Codes [0x30#8, r] (.bmiR8 r) ∧ short (s.p.n) (.bmiR8 r) r) ∧
    (∀ (r : Word), Codes [0x33#8, loByte r, hiByte r] (.bmiR16 r) ∧ long (s.p.n) (.bmiR16 r) r) ∧
    (∀ (r : Byte), Codes [0x50#8, r] (.bvcR8 r) ∧ short (!s.p.v) (.bvcR8 r) r) ∧
    (∀ (r : Word), Codes [0x53#8, loByte r, hiByte r] (.bvcR16 r) ∧ long (!s.p.v) (.bvcR16 r) r) ∧
    (∀ (r : Byte), Codes [0x70#8, r] (.bvsR8 r) ∧ short (s.p.v) (.bvsR8 r) r) ∧
    (∀ (r : Word), Codes [0x73#8, loByte r, hiByte r] (.bvsR16 r) ∧ long (s.p.v) (.bvsR16 r) r) ∧
    (∀ (r : Byte), Codes [0x90#8, r] (.bccR8 r) ∧ short (!s.p.c) (.bccR8 r) r) ∧
    (∀ (r : Word), Codes [0x93#8, loByte r, hiByte r] (.bccR16 r) ∧ long (!s.p.c) (.bccR16 r) r) ∧
    (∀ (r : Byte), Codes [0xB0#8, r] (.bcsR8 r) ∧ short (s.p.c) (.bcsR8 r) r) ∧
    (∀ (r : Word), Codes [0xB3#8, loByte r, hiByte r] (.bcsR16 r) ∧ long (s.p.c) (.bcsR16 r) r) ∧
    (∀ (r : Byte), Codes [0xD0#8, r] (.bneR8 r) ∧ short (!s.p.z) (.bneR8 r) r) ∧
    (∀ (r : Word), Codes [0xD3#8, loByte r, hiByte r] (.bneR16 r) ∧ long (!s.p.z) (.bneR16 r) r) ∧
    (∀ (r : Byte), Codes [0xF0#8, r] (.beqR8 r) ∧ short (s.p.z) (.beqR8 r) r) ∧
    (∀ (r : Word), Codes [0xF3#8, loByte r, hiByte r] (.beqR16 r) ∧ long (s.p.z) (.beqR16 r) r) ∧
    (∀ (r : Byte), Codes [0x80#8, r] (.braR8 r) ∧ short (true) (.braR8 r) r) ∧
    (∀ (r : Word), Codes [0x83#8, loByte r, hiByte r] (.braR16 r) ∧ long (true) (.braR16 r) r)

/-- BBR0 to BBR7 and BBS0 to BBS7 branch from opaddr + 3 when bit n of the byte at B:op1 is clear or set; nothing else changes -/
def Obligations.BitBranchesTestBasePageByte : Prop :=
  ∀ s : State,
    let run := fun (n : Nat) (want : Bool) (i : Instr) (a r : Byte) =>
      let ea : Word := BitVec.ofNat 16 (s.b.toNat * 256 + a.toNat)
      Accessible s ea → exec i s = .next { s with
        pc := if (peek 2 ea s).getLsbD n = want then BitVec.ofInt 16 ((s.pc.toNat : Int) + 3 + r.toInt)
              else BitVec.ofNat 16 (s.pc.toNat + 3) }
    (∀ (a : Byte) (r : Byte), Codes [0x0F#8, a, r] (.bbr0 a r) ∧ run 0 false (.bbr0 a r) a r) ∧
    (∀ (a : Byte) (r : Byte), Codes [0x1F#8, a, r] (.bbr1 a r) ∧ run 1 false (.bbr1 a r) a r) ∧
    (∀ (a : Byte) (r : Byte), Codes [0x2F#8, a, r] (.bbr2 a r) ∧ run 2 false (.bbr2 a r) a r) ∧
    (∀ (a : Byte) (r : Byte), Codes [0x3F#8, a, r] (.bbr3 a r) ∧ run 3 false (.bbr3 a r) a r) ∧
    (∀ (a : Byte) (r : Byte), Codes [0x4F#8, a, r] (.bbr4 a r) ∧ run 4 false (.bbr4 a r) a r) ∧
    (∀ (a : Byte) (r : Byte), Codes [0x5F#8, a, r] (.bbr5 a r) ∧ run 5 false (.bbr5 a r) a r) ∧
    (∀ (a : Byte) (r : Byte), Codes [0x6F#8, a, r] (.bbr6 a r) ∧ run 6 false (.bbr6 a r) a r) ∧
    (∀ (a : Byte) (r : Byte), Codes [0x7F#8, a, r] (.bbr7 a r) ∧ run 7 false (.bbr7 a r) a r) ∧
    (∀ (a : Byte) (r : Byte), Codes [0x8F#8, a, r] (.bbs0 a r) ∧ run 0 true (.bbs0 a r) a r) ∧
    (∀ (a : Byte) (r : Byte), Codes [0x9F#8, a, r] (.bbs1 a r) ∧ run 1 true (.bbs1 a r) a r) ∧
    (∀ (a : Byte) (r : Byte), Codes [0xAF#8, a, r] (.bbs2 a r) ∧ run 2 true (.bbs2 a r) a r) ∧
    (∀ (a : Byte) (r : Byte), Codes [0xBF#8, a, r] (.bbs3 a r) ∧ run 3 true (.bbs3 a r) a r) ∧
    (∀ (a : Byte) (r : Byte), Codes [0xCF#8, a, r] (.bbs4 a r) ∧ run 4 true (.bbs4 a r) a r) ∧
    (∀ (a : Byte) (r : Byte), Codes [0xDF#8, a, r] (.bbs5 a r) ∧ run 5 true (.bbs5 a r) a r) ∧
    (∀ (a : Byte) (r : Byte), Codes [0xEF#8, a, r] (.bbs6 a r) ∧ run 6 true (.bbs6 a r) a r) ∧
    (∀ (a : Byte) (r : Byte), Codes [0xFF#8, a, r] (.bbs7 a r) ∧ run 7 true (.bbs7 a r) a r)

/-- A run ends at END_PC or after exactly the given number of instructions; an interrupt entry or a reset counts for none -/
def Obligations.RunEndsAtEndPcOrAfterInstructions : Prop :=
  (∀ (limit : RunLimit) (k : Nat) (s : State), limit.endPc = some s.pc → runUntil limit k s = .ended s) ∧
  (∀ (limit : RunLimit) (k : Nat) (s u : State), runUntil limit k s = .ended u →
    limit.endPc = some u.pc ∨ ∃ n, limit.instructions = some n ∧ Reaches n s u) ∧
  (∀ (s : State) (n : Nat), ExactMap s → resetReleased s = true →
    ∃ u, Reaches n s u ∧
      ∀ k, 3 * s.inputs.length + 2 * n + 2 ≤ k → runUntil { endPc := none, instructions := some n } k s = .ended u) ∧
  (∀ (limit : RunLimit) (k : Nat) (s : State), Accessible s s.cfg.vecReset → Accessible s (s.cfg.vecReset + 1#16) →
    ∃ t, resetSequence s = .ok t ∧ runFromPowerOn limit k s = runUntil limit k { t with draws := s.draws + 1 })
end

