-- ==== Sys2Proof/Laws/Memory.lean ====
section
/-! SUPPORT. The laws of the memory list: reading after writing, and the canonical form. They hold of every list,
canonical or not, but where the canonical form itself is the claim. -/

namespace Sys2Proof.Machine

theorem Memory.read_erase (m : Memory) (a k : Nat) :
    (m.erase a).read k = if k = a then Memory.unlisted else m.read k := by
  induction m with
  | nil => simp [Memory.erase, Memory.read]
  | cons c rest ih =>
    obtain ⟨j, w⟩ := c
    by_cases hja : j = a
    · subst hja
      by_cases hk : k = j
      · subst hk; simpa [Memory.erase] using ih
      · simp [Memory.erase, Memory.read, ih, hk, Ne.symm hk]
    · by_cases hk : k = j
      · subst hk; simp [Memory.erase, Memory.read, hja]
      · simp [Memory.erase, Memory.read, ih, hja, Ne.symm hk]

theorem Memory.read_insert (m : Memory) (a : Nat) (v : Byte) (k : Nat)
    (hfree : ∀ c ∈ m, c.1 ≠ a) :
    (m.insert a v).read k = if k = a then v else m.read k := by
  induction m with
  | nil => simp [Memory.insert, Memory.read, eq_comm]
  | cons c rest ih =>
    obtain ⟨j, w⟩ := c
    have hja : j ≠ a := hfree (j, w) (by simp)
    have ih' := ih (fun c hc => hfree c (by simp [hc]))
    by_cases hlt : a < j
    · by_cases hk : k = a
      · subst hk; simp [Memory.insert, Memory.read, hlt]
      · simp [Memory.insert, Memory.read, hlt, hk, Ne.symm hk]
    · by_cases hkj : j = k
      · subst hkj; simp [Memory.insert, Memory.read, hlt, hja]
      · simp [Memory.insert, Memory.read, hlt, hkj, ih']

theorem Memory.erase_free (m : Memory) (a : Nat) : ∀ c ∈ m.erase a, c.1 ≠ a := by
  induction m with
  | nil => simp [Memory.erase]
  | cons c rest ih =>
    obtain ⟨j, w⟩ := c
    by_cases hja : j = a
    · simpa [Memory.erase, hja] using ih
    · intro d hd
      simp only [Memory.erase, if_neg hja, List.mem_cons] at hd
      rcases hd with rfl | hd
      · exact hja
      · exact ih d hd

/-- Reading any address after a write: the written byte there, the old byte elsewhere. -/
theorem Memory.read_write (m : Memory) (a : Nat) (v : Byte) (k : Nat) :
    (m.write a v).read k = if k = a then v else m.read k := by
  unfold Memory.write
  by_cases hv : v = Memory.unlisted
  · simp [hv, Memory.read_erase]
  · rw [if_neg hv, Memory.read_insert _ _ _ _ (Memory.erase_free m a),
      Memory.read_erase]
    by_cases hk : k = a <;> simp [hk]

@[simp] theorem Memory.read_write_same (m : Memory) (a : Nat) (v : Byte) : (m.write a v).read a = v := by
  simp [Memory.read_write]

theorem Memory.read_write_other (m : Memory) {a k : Nat} (v : Byte) (h : k ≠ a) : (m.write a v).read k = m.read k := by
  simp [Memory.read_write, h]

theorem Memory.wfFrom_mono {lo lo' : Nat} (h : lo' ≤ lo) {m : Memory} (hm : m.wfFrom lo = true) :
    m.wfFrom lo' = true := by
  cases m with
  | nil => rfl
  | cons c rest =>
    obtain ⟨j, w⟩ := c
    simp [Memory.wfFrom] at hm ⊢
    exact ⟨⟨⟨Nat.le_trans h hm.1.1.1, hm.1.1.2⟩, hm.1.2⟩, hm.2⟩

theorem Memory.wfFrom_erase (m : Memory) (a : Nat) : ∀ lo, m.wfFrom lo = true → (m.erase a).wfFrom lo = true := by
  induction m with
  | nil => intro lo _; rfl
  | cons c rest ih =>
    obtain ⟨j, w⟩ := c
    intro lo hm
    simp [Memory.wfFrom] at hm
    by_cases hja : j = a
    · simp only [Memory.erase, if_pos hja]
      exact ih lo (Memory.wfFrom_mono (by omega) hm.2)
    · simp [Memory.erase, hja, Memory.wfFrom, hm, ih]

theorem Memory.wfFrom_insert (m : Memory) (a : Nat) (v : Byte) (ha : a < 65536) (hv : v ≠ Memory.unlisted) :
    ∀ lo, lo ≤ a → (∀ c ∈ m, c.1 ≠ a) → m.wfFrom lo = true → (m.insert a v).wfFrom lo = true := by
  induction m with
  | nil => intro lo hlo _ _; simp [Memory.insert, Memory.wfFrom, hlo, ha, hv]
  | cons c rest ih =>
    obtain ⟨j, w⟩ := c
    intro lo hlo hfree hm
    have hja : j ≠ a := hfree (j, w) (by simp)
    simp [Memory.wfFrom] at hm
    by_cases hlt : a < j
    · have : a + 1 ≤ j := hlt
      simp [Memory.insert, hlt, Memory.wfFrom, hlo, ha, hv, hm, this]
    · have := ih (j + 1) (by omega) (fun c hc => hfree c (by simp [hc])) hm.2
      simp [Memory.insert, hlt, Memory.wfFrom, hm, this]

/-- A write at an address of the address space keeps the canonical form. -/
theorem Memory.wf_write {m : Memory} (hm : m.wf = true) {a : Nat} (ha : a < 65536) (v : Byte) :
    (m.write a v).wf = true := by
  unfold Memory.write
  by_cases hv : v = Memory.unlisted
  · rw [if_pos hv]; exact Memory.wfFrom_erase m a 0 hm
  · rw [if_neg hv]
    exact Memory.wfFrom_insert _ a v ha hv 0 (Nat.zero_le _) (Memory.erase_free m a) (Memory.wfFrom_erase m a 0 hm)

/-- In canonical form an address below the first entry reads as an unlisted one. -/
theorem Memory.read_of_lt_wfFrom {m : Memory} {lo : Nat} (h : m.wfFrom lo = true) {k : Nat} (hk : k < lo) :
    m.read k = Memory.unlisted := by
  induction m generalizing lo with
  | nil => rfl
  | cons c rest ih =>
    obtain ⟨j, v⟩ := c
    simp [Memory.wfFrom] at h
    have hj : j ≠ k := by omega
    simp [Memory.read, hj, ih h.2 (show k < j + 1 by omega)]

/-- Canonical memories that read the same at every address are the same list. -/
theorem Memory.eq_of_wfFrom {m n : Memory} {lo : Nat} (hm : m.wfFrom lo = true) (hn : n.wfFrom lo = true)
    (h : ∀ k, m.read k = n.read k) : m = n := by
  induction m generalizing n lo with
  | nil =>
    cases n with
    | nil => rfl
    | cons c rest =>
      have hk := h c.1
      simp [Memory.wfFrom] at hn
      simp [Memory.read] at hk
      exact absurd hk.symm hn.1.2
  | cons c rest ih =>
    obtain ⟨k, v⟩ := c
    cases n with
    | nil =>
      have hk := h k
      simp [Memory.wfFrom] at hm
      simp [Memory.read] at hk
      exact absurd hk hm.1.2
    | cons c' rest' =>
      obtain ⟨k', v'⟩ := c'
      simp [Memory.wfFrom] at hm hn
      have hk := h k
      have hk' := h k'
      simp [Memory.read] at hk hk'
      have e : k = k' := by
        rcases Nat.lt_trichotomy k k' with hl | he | hl
        · rw [if_neg (by omega), Memory.read_of_lt_wfFrom hn.2 (by omega)] at hk
          exact absurd hk hm.1.2
        · exact he
        · rw [if_neg (by omega), Memory.read_of_lt_wfFrom hm.2 (by omega)] at hk'
          exact absurd hk'.symm hn.1.2
      subst e
      simp at hk
      subst hk
      congr 1
      refine ih hm.2 hn.2 (fun j => ?_)
      have hj := h j
      by_cases hkj : k = j
      · subst hkj
        rw [Memory.read_of_lt_wfFrom hm.2 (Nat.lt_succ_self _), Memory.read_of_lt_wfFrom hn.2 (Nat.lt_succ_self _)]
      · simpa [Memory.read, hkj] using hj

/-- Equal memories are equal data. -/
theorem Memory.eq_of_wf {m n : Memory} (hm : m.wf = true) (hn : n.wf = true) (h : ∀ k, m.read k = n.read k) : m = n :=
  Memory.eq_of_wfFrom hm hn h

end Sys2Proof.Machine
end

