-- ==== Sys2Proof/Laws/State.lean ====
section
/-! SUPPORT. One lemma per field per update of State, each true by rfl, so that no later proof unfolds an update. -/

namespace Sys2Proof.Machine

variable (s : State)

@[simp] theorem State.setA_a (v : Byte) : (s.setA v).a = v := rfl
@[simp] theorem State.setA_x (v : Byte) : (s.setA v).x = s.x := rfl
@[simp] theorem State.setA_y (v : Byte) : (s.setA v).y = s.y := rfl
@[simp] theorem State.setA_z (v : Byte) : (s.setA v).z = s.z := rfl
@[simp] theorem State.setA_b (v : Byte) : (s.setA v).b = s.b := rfl
@[simp] theorem State.setA_sp (v : Byte) : (s.setA v).sp = s.sp := rfl
@[simp] theorem State.setA_pc (v : Byte) : (s.setA v).pc = s.pc := rfl
@[simp] theorem State.setA_p (v : Byte) : (s.setA v).p = s.p := rfl
@[simp] theorem State.setA_mem (v : Byte) : (s.setA v).mem = s.mem := rfl
@[simp] theorem State.setA_irqLine (v : Byte) : (s.setA v).irqLine = s.irqLine := rfl
@[simp] theorem State.setA_resetLine (v : Byte) : (s.setA v).resetLine = s.resetLine := rfl
@[simp] theorem State.setA_nmiPending (v : Byte) : (s.setA v).nmiPending = s.nmiPending := rfl
@[simp] theorem State.setA_inputs (v : Byte) : (s.setA v).inputs = s.inputs := rfl
@[simp] theorem State.setA_draws (v : Byte) : (s.setA v).draws = s.draws := rfl
@[simp] theorem State.setA_cfg (v : Byte) : (s.setA v).cfg = s.cfg := rfl

@[simp] theorem State.setX_a (v : Byte) : (s.setX v).a = s.a := rfl
@[simp] theorem State.setX_x (v : Byte) : (s.setX v).x = v := rfl
@[simp] theorem State.setX_y (v : Byte) : (s.setX v).y = s.y := rfl
@[simp] theorem State.setX_z (v : Byte) : (s.setX v).z = s.z := rfl
@[simp] theorem State.setX_b (v : Byte) : (s.setX v).b = s.b := rfl
@[simp] theorem State.setX_sp (v : Byte) : (s.setX v).sp = s.sp := rfl
@[simp] theorem State.setX_pc (v : Byte) : (s.setX v).pc = s.pc := rfl
@[simp] theorem State.setX_p (v : Byte) : (s.setX v).p = s.p := rfl
@[simp] theorem State.setX_mem (v : Byte) : (s.setX v).mem = s.mem := rfl
@[simp] theorem State.setX_irqLine (v : Byte) : (s.setX v).irqLine = s.irqLine := rfl
@[simp] theorem State.setX_resetLine (v : Byte) : (s.setX v).resetLine = s.resetLine := rfl
@[simp] theorem State.setX_nmiPending (v : Byte) : (s.setX v).nmiPending = s.nmiPending := rfl
@[simp] theorem State.setX_inputs (v : Byte) : (s.setX v).inputs = s.inputs := rfl
@[simp] theorem State.setX_draws (v : Byte) : (s.setX v).draws = s.draws := rfl
@[simp] theorem State.setX_cfg (v : Byte) : (s.setX v).cfg = s.cfg := rfl

@[simp] theorem State.setY_a (v : Byte) : (s.setY v).a = s.a := rfl
@[simp] theorem State.setY_x (v : Byte) : (s.setY v).x = s.x := rfl
@[simp] theorem State.setY_y (v : Byte) : (s.setY v).y = v := rfl
@[simp] theorem State.setY_z (v : Byte) : (s.setY v).z = s.z := rfl
@[simp] theorem State.setY_b (v : Byte) : (s.setY v).b = s.b := rfl
@[simp] theorem State.setY_sp (v : Byte) : (s.setY v).sp = s.sp := rfl
@[simp] theorem State.setY_pc (v : Byte) : (s.setY v).pc = s.pc := rfl
@[simp] theorem State.setY_p (v : Byte) : (s.setY v).p = s.p := rfl
@[simp] theorem State.setY_mem (v : Byte) : (s.setY v).mem = s.mem := rfl
@[simp] theorem State.setY_irqLine (v : Byte) : (s.setY v).irqLine = s.irqLine := rfl
@[simp] theorem State.setY_resetLine (v : Byte) : (s.setY v).resetLine = s.resetLine := rfl
@[simp] theorem State.setY_nmiPending (v : Byte) : (s.setY v).nmiPending = s.nmiPending := rfl
@[simp] theorem State.setY_inputs (v : Byte) : (s.setY v).inputs = s.inputs := rfl
@[simp] theorem State.setY_draws (v : Byte) : (s.setY v).draws = s.draws := rfl
@[simp] theorem State.setY_cfg (v : Byte) : (s.setY v).cfg = s.cfg := rfl

@[simp] theorem State.setZ_a (v : Byte) : (s.setZ v).a = s.a := rfl
@[simp] theorem State.setZ_x (v : Byte) : (s.setZ v).x = s.x := rfl
@[simp] theorem State.setZ_y (v : Byte) : (s.setZ v).y = s.y := rfl
@[simp] theorem State.setZ_z (v : Byte) : (s.setZ v).z = v := rfl
@[simp] theorem State.setZ_b (v : Byte) : (s.setZ v).b = s.b := rfl
@[simp] theorem State.setZ_sp (v : Byte) : (s.setZ v).sp = s.sp := rfl
@[simp] theorem State.setZ_pc (v : Byte) : (s.setZ v).pc = s.pc := rfl
@[simp] theorem State.setZ_p (v : Byte) : (s.setZ v).p = s.p := rfl
@[simp] theorem State.setZ_mem (v : Byte) : (s.setZ v).mem = s.mem := rfl
@[simp] theorem State.setZ_irqLine (v : Byte) : (s.setZ v).irqLine = s.irqLine := rfl
@[simp] theorem State.setZ_resetLine (v : Byte) : (s.setZ v).resetLine = s.resetLine := rfl
@[simp] theorem State.setZ_nmiPending (v : Byte) : (s.setZ v).nmiPending = s.nmiPending := rfl
@[simp] theorem State.setZ_inputs (v : Byte) : (s.setZ v).inputs = s.inputs := rfl
@[simp] theorem State.setZ_draws (v : Byte) : (s.setZ v).draws = s.draws := rfl
@[simp] theorem State.setZ_cfg (v : Byte) : (s.setZ v).cfg = s.cfg := rfl

@[simp] theorem State.setB_a (v : Byte) : (s.setB v).a = s.a := rfl
@[simp] theorem State.setB_x (v : Byte) : (s.setB v).x = s.x := rfl
@[simp] theorem State.setB_y (v : Byte) : (s.setB v).y = s.y := rfl
@[simp] theorem State.setB_z (v : Byte) : (s.setB v).z = s.z := rfl
@[simp] theorem State.setB_b (v : Byte) : (s.setB v).b = v := rfl
@[simp] theorem State.setB_sp (v : Byte) : (s.setB v).sp = s.sp := rfl
@[simp] theorem State.setB_pc (v : Byte) : (s.setB v).pc = s.pc := rfl
@[simp] theorem State.setB_p (v : Byte) : (s.setB v).p = s.p := rfl
@[simp] theorem State.setB_mem (v : Byte) : (s.setB v).mem = s.mem := rfl
@[simp] theorem State.setB_irqLine (v : Byte) : (s.setB v).irqLine = s.irqLine := rfl
@[simp] theorem State.setB_resetLine (v : Byte) : (s.setB v).resetLine = s.resetLine := rfl
@[simp] theorem State.setB_nmiPending (v : Byte) : (s.setB v).nmiPending = s.nmiPending := rfl
@[simp] theorem State.setB_inputs (v : Byte) : (s.setB v).inputs = s.inputs := rfl
@[simp] theorem State.setB_draws (v : Byte) : (s.setB v).draws = s.draws := rfl
@[simp] theorem State.setB_cfg (v : Byte) : (s.setB v).cfg = s.cfg := rfl

@[simp] theorem State.setSp_a (v : Word) : (s.setSp v).a = s.a := rfl
@[simp] theorem State.setSp_x (v : Word) : (s.setSp v).x = s.x := rfl
@[simp] theorem State.setSp_y (v : Word) : (s.setSp v).y = s.y := rfl
@[simp] theorem State.setSp_z (v : Word) : (s.setSp v).z = s.z := rfl
@[simp] theorem State.setSp_b (v : Word) : (s.setSp v).b = s.b := rfl
@[simp] theorem State.setSp_sp (v : Word) : (s.setSp v).sp = v := rfl
@[simp] theorem State.setSp_pc (v : Word) : (s.setSp v).pc = s.pc := rfl
@[simp] theorem State.setSp_p (v : Word) : (s.setSp v).p = s.p := rfl
@[simp] theorem State.setSp_mem (v : Word) : (s.setSp v).mem = s.mem := rfl
@[simp] theorem State.setSp_irqLine (v : Word) : (s.setSp v).irqLine = s.irqLine := rfl
@[simp] theorem State.setSp_resetLine (v : Word) : (s.setSp v).resetLine = s.resetLine := rfl
@[simp] theorem State.setSp_nmiPending (v : Word) : (s.setSp v).nmiPending = s.nmiPending := rfl
@[simp] theorem State.setSp_inputs (v : Word) : (s.setSp v).inputs = s.inputs := rfl
@[simp] theorem State.setSp_draws (v : Word) : (s.setSp v).draws = s.draws := rfl
@[simp] theorem State.setSp_cfg (v : Word) : (s.setSp v).cfg = s.cfg := rfl

@[simp] theorem State.setPc_a (v : Word) : (s.setPc v).a = s.a := rfl
@[simp] theorem State.setPc_x (v : Word) : (s.setPc v).x = s.x := rfl
@[simp] theorem State.setPc_y (v : Word) : (s.setPc v).y = s.y := rfl
@[simp] theorem State.setPc_z (v : Word) : (s.setPc v).z = s.z := rfl
@[simp] theorem State.setPc_b (v : Word) : (s.setPc v).b = s.b := rfl
@[simp] theorem State.setPc_sp (v : Word) : (s.setPc v).sp = s.sp := rfl
@[simp] theorem State.setPc_pc (v : Word) : (s.setPc v).pc = v := rfl
@[simp] theorem State.setPc_p (v : Word) : (s.setPc v).p = s.p := rfl
@[simp] theorem State.setPc_mem (v : Word) : (s.setPc v).mem = s.mem := rfl
@[simp] theorem State.setPc_irqLine (v : Word) : (s.setPc v).irqLine = s.irqLine := rfl
@[simp] theorem State.setPc_resetLine (v : Word) : (s.setPc v).resetLine = s.resetLine := rfl
@[simp] theorem State.setPc_nmiPending (v : Word) : (s.setPc v).nmiPending = s.nmiPending := rfl
@[simp] theorem State.setPc_inputs (v : Word) : (s.setPc v).inputs = s.inputs := rfl
@[simp] theorem State.setPc_draws (v : Word) : (s.setPc v).draws = s.draws := rfl
@[simp] theorem State.setPc_cfg (v : Word) : (s.setPc v).cfg = s.cfg := rfl

@[simp] theorem State.setP_a (v : Flags) : (s.setP v).a = s.a := rfl
@[simp] theorem State.setP_x (v : Flags) : (s.setP v).x = s.x := rfl
@[simp] theorem State.setP_y (v : Flags) : (s.setP v).y = s.y := rfl
@[simp] theorem State.setP_z (v : Flags) : (s.setP v).z = s.z := rfl
@[simp] theorem State.setP_b (v : Flags) : (s.setP v).b = s.b := rfl
@[simp] theorem State.setP_sp (v : Flags) : (s.setP v).sp = s.sp := rfl
@[simp] theorem State.setP_pc (v : Flags) : (s.setP v).pc = s.pc := rfl
@[simp] theorem State.setP_p (v : Flags) : (s.setP v).p = v := rfl
@[simp] theorem State.setP_mem (v : Flags) : (s.setP v).mem = s.mem := rfl
@[simp] theorem State.setP_irqLine (v : Flags) : (s.setP v).irqLine = s.irqLine := rfl
@[simp] theorem State.setP_resetLine (v : Flags) : (s.setP v).resetLine = s.resetLine := rfl
@[simp] theorem State.setP_nmiPending (v : Flags) : (s.setP v).nmiPending = s.nmiPending := rfl
@[simp] theorem State.setP_inputs (v : Flags) : (s.setP v).inputs = s.inputs := rfl
@[simp] theorem State.setP_draws (v : Flags) : (s.setP v).draws = s.draws := rfl
@[simp] theorem State.setP_cfg (v : Flags) : (s.setP v).cfg = s.cfg := rfl

@[simp] theorem State.setMem_a (v : Memory) : (s.setMem v).a = s.a := rfl
@[simp] theorem State.setMem_x (v : Memory) : (s.setMem v).x = s.x := rfl
@[simp] theorem State.setMem_y (v : Memory) : (s.setMem v).y = s.y := rfl
@[simp] theorem State.setMem_z (v : Memory) : (s.setMem v).z = s.z := rfl
@[simp] theorem State.setMem_b (v : Memory) : (s.setMem v).b = s.b := rfl
@[simp] theorem State.setMem_sp (v : Memory) : (s.setMem v).sp = s.sp := rfl
@[simp] theorem State.setMem_pc (v : Memory) : (s.setMem v).pc = s.pc := rfl
@[simp] theorem State.setMem_p (v : Memory) : (s.setMem v).p = s.p := rfl
@[simp] theorem State.setMem_mem (v : Memory) : (s.setMem v).mem = v := rfl
@[simp] theorem State.setMem_irqLine (v : Memory) : (s.setMem v).irqLine = s.irqLine := rfl
@[simp] theorem State.setMem_resetLine (v : Memory) : (s.setMem v).resetLine = s.resetLine := rfl
@[simp] theorem State.setMem_nmiPending (v : Memory) : (s.setMem v).nmiPending = s.nmiPending := rfl
@[simp] theorem State.setMem_inputs (v : Memory) : (s.setMem v).inputs = s.inputs := rfl
@[simp] theorem State.setMem_draws (v : Memory) : (s.setMem v).draws = s.draws := rfl
@[simp] theorem State.setMem_cfg (v : Memory) : (s.setMem v).cfg = s.cfg := rfl

@[simp] theorem State.setSpLow_a (v : Byte) : (s.setSpLow v).a = s.a := rfl
@[simp] theorem State.setSpLow_x (v : Byte) : (s.setSpLow v).x = s.x := rfl
@[simp] theorem State.setSpLow_y (v : Byte) : (s.setSpLow v).y = s.y := rfl
@[simp] theorem State.setSpLow_z (v : Byte) : (s.setSpLow v).z = s.z := rfl
@[simp] theorem State.setSpLow_b (v : Byte) : (s.setSpLow v).b = s.b := rfl
@[simp] theorem State.setSpLow_sp (v : Byte) : (s.setSpLow v).sp = mkWord (hiByte s.sp) v := rfl
@[simp] theorem State.setSpLow_pc (v : Byte) : (s.setSpLow v).pc = s.pc := rfl
@[simp] theorem State.setSpLow_p (v : Byte) : (s.setSpLow v).p = s.p := rfl
@[simp] theorem State.setSpLow_mem (v : Byte) : (s.setSpLow v).mem = s.mem := rfl
@[simp] theorem State.setSpLow_irqLine (v : Byte) : (s.setSpLow v).irqLine = s.irqLine := rfl
@[simp] theorem State.setSpLow_resetLine (v : Byte) : (s.setSpLow v).resetLine = s.resetLine := rfl
@[simp] theorem State.setSpLow_nmiPending (v : Byte) : (s.setSpLow v).nmiPending = s.nmiPending := rfl
@[simp] theorem State.setSpLow_inputs (v : Byte) : (s.setSpLow v).inputs = s.inputs := rfl
@[simp] theorem State.setSpLow_draws (v : Byte) : (s.setSpLow v).draws = s.draws := rfl
@[simp] theorem State.setSpLow_cfg (v : Byte) : (s.setSpLow v).cfg = s.cfg := rfl

@[simp] theorem State.setSpHigh_a (v : Byte) : (s.setSpHigh v).a = s.a := rfl
@[simp] theorem State.setSpHigh_x (v : Byte) : (s.setSpHigh v).x = s.x := rfl
@[simp] theorem State.setSpHigh_y (v : Byte) : (s.setSpHigh v).y = s.y := rfl
@[simp] theorem State.setSpHigh_z (v : Byte) : (s.setSpHigh v).z = s.z := rfl
@[simp] theorem State.setSpHigh_b (v : Byte) : (s.setSpHigh v).b = s.b := rfl
@[simp] theorem State.setSpHigh_sp (v : Byte) : (s.setSpHigh v).sp = mkWord v (loByte s.sp) := rfl
@[simp] theorem State.setSpHigh_pc (v : Byte) : (s.setSpHigh v).pc = s.pc := rfl
@[simp] theorem State.setSpHigh_p (v : Byte) : (s.setSpHigh v).p = s.p := rfl
@[simp] theorem State.setSpHigh_mem (v : Byte) : (s.setSpHigh v).mem = s.mem := rfl
@[simp] theorem State.setSpHigh_irqLine (v : Byte) : (s.setSpHigh v).irqLine = s.irqLine := rfl
@[simp] theorem State.setSpHigh_resetLine (v : Byte) : (s.setSpHigh v).resetLine = s.resetLine := rfl
@[simp] theorem State.setSpHigh_nmiPending (v : Byte) : (s.setSpHigh v).nmiPending = s.nmiPending := rfl
@[simp] theorem State.setSpHigh_inputs (v : Byte) : (s.setSpHigh v).inputs = s.inputs := rfl
@[simp] theorem State.setSpHigh_draws (v : Byte) : (s.setSpHigh v).draws = s.draws := rfl
@[simp] theorem State.setSpHigh_cfg (v : Byte) : (s.setSpHigh v).cfg = s.cfg := rfl

@[simp] theorem setNZ_n (v : Byte) (p : Flags) : (setNZ v p).n = v.msb := rfl
@[simp] theorem setNZ_v (v : Byte) (p : Flags) : (setNZ v p).v = p.v := rfl
@[simp] theorem setNZ_e (v : Byte) (p : Flags) : (setNZ v p).e = p.e := rfl
@[simp] theorem setNZ_d (v : Byte) (p : Flags) : (setNZ v p).d = p.d := rfl
@[simp] theorem setNZ_i (v : Byte) (p : Flags) : (setNZ v p).i = p.i := rfl
@[simp] theorem setNZ_z (v : Byte) (p : Flags) : (setNZ v p).z = (v == 0#8) := rfl
@[simp] theorem setNZ_c (v : Byte) (p : Flags) : (setNZ v p).c = p.c := rfl

@[simp] theorem setNZ16_n (v : Word) (p : Flags) : (setNZ16 v p).n = v.msb := rfl
@[simp] theorem setNZ16_v (v : Word) (p : Flags) : (setNZ16 v p).v = p.v := rfl
@[simp] theorem setNZ16_e (v : Word) (p : Flags) : (setNZ16 v p).e = p.e := rfl
@[simp] theorem setNZ16_d (v : Word) (p : Flags) : (setNZ16 v p).d = p.d := rfl
@[simp] theorem setNZ16_i (v : Word) (p : Flags) : (setNZ16 v p).i = p.i := rfl
@[simp] theorem setNZ16_z (v : Word) (p : Flags) : (setNZ16 v p).z = (v == 0#16) := rfl
@[simp] theorem setNZ16_c (v : Word) (p : Flags) : (setNZ16 v p).c = p.c := rfl

@[simp] theorem nextBoundary_a : (nextBoundary s).a = s.a := by
  unfold nextBoundary; split <;> rfl
@[simp] theorem nextBoundary_x : (nextBoundary s).x = s.x := by
  unfold nextBoundary; split <;> rfl
@[simp] theorem nextBoundary_y : (nextBoundary s).y = s.y := by
  unfold nextBoundary; split <;> rfl
@[simp] theorem nextBoundary_z : (nextBoundary s).z = s.z := by
  unfold nextBoundary; split <;> rfl
@[simp] theorem nextBoundary_b : (nextBoundary s).b = s.b := by
  unfold nextBoundary; split <;> rfl
@[simp] theorem nextBoundary_sp : (nextBoundary s).sp = s.sp := by
  unfold nextBoundary; split <;> rfl
@[simp] theorem nextBoundary_pc : (nextBoundary s).pc = s.pc := by
  unfold nextBoundary; split <;> rfl
@[simp] theorem nextBoundary_p : (nextBoundary s).p = s.p := by
  unfold nextBoundary; split <;> rfl
@[simp] theorem nextBoundary_mem : (nextBoundary s).mem = s.mem := by
  unfold nextBoundary; split <;> rfl
@[simp] theorem nextBoundary_cfg : (nextBoundary s).cfg = s.cfg := by
  unfold nextBoundary; split <;> rfl
@[simp] theorem nextBoundary_draws : (nextBoundary s).draws = s.draws + 1 := by
  unfold nextBoundary; split <;> rfl

/-- The kind of an address depends on the parameters alone. -/
theorem kindAt_congr {s t : State} (h : t.cfg = s.cfg) (a : Word) : kindAt t a = kindAt s a := by
  simp [kindAt, h]

@[simp] theorem kindAt_setMem (m : Memory) (a : Word) : kindAt (s.setMem m) a = kindAt s a := rfl
@[simp] theorem kindAt_setSp (v a : Word) : kindAt (s.setSp v) a = kindAt s a := rfl
@[simp] theorem kindAt_setPc (v a : Word) : kindAt (s.setPc v) a = kindAt s a := rfl
@[simp] theorem kindAt_setP (v : Flags) (a : Word) : kindAt (s.setP v) a = kindAt s a := rfl

@[simp] theorem peek_setSp (k : Nat) (v a : Word) : peek k a (s.setSp v) = peek k a s := rfl
@[simp] theorem peek_setPc (k : Nat) (v a : Word) : peek k a (s.setPc v) = peek k a s := rfl
@[simp] theorem peek_setP (k : Nat) (v : Flags) (a : Word) : peek k a (s.setP v) = peek k a s := rfl

@[simp] theorem memRead_setSp (k : Nat) (v a : Word) : memRead k a (s.setSp v) = memRead k a s := rfl
@[simp] theorem memRead_setPc (k : Nat) (v a : Word) : memRead k a (s.setPc v) = memRead k a s := rfl
@[simp] theorem memRead_setP (k : Nat) (v : Flags) (a : Word) : memRead k a (s.setP v) = memRead k a s := rfl

end Sys2Proof.Machine
end

