-- ==== Sys2Proof/Laws/Ops.lean ====
section
/-! SUPPORT. Once for each shared operation: everything it can do. Each lemma says when the operation answers a state
(or a value) and which one, so that no later proof unfolds the operation. -/

namespace Sys2Proof.Machine

variable {α β : Type} {s t : State}

theorem bind_eq_ok {x : Res α} {f : α → Res β} {b : β} : (x >>= f) = .ok b ↔ ∃ a, x = .ok a ∧ f a = .ok b := by
  cases x <;> simp [bind, Except.bind]

@[simp] theorem ok_bind (a : α) (f : α → Res β) : ((.ok a : Res α) >>= f) = f a := rfl

@[simp] theorem error_bind (e : Refusal) (f : α → Res β) : ((.error e : Res α) >>= f) = .error e := rfl

@[simp] theorem pure_eq_ok (a : α) : (pure a : Res α) = .ok a := rfl

theorem outcome_eq_next {r : Res State} : outcome r = .next t ↔ r = .ok t := by
  cases r <;> simp [outcome]

@[simp] theorem outcome_ok (s : State) : outcome (.ok s) = .next s := rfl

/-- An instruction that only moves PC past itself. -/
theorem advance_eq_next {len : Word} {r : Res State} :
    advance len r = .next t ↔ ∃ u, r = .ok u ∧ t = u.setPc (u.pc + len) := by
  cases r <;> simp [advance, eq_comm]

@[simp] theorem advance_ok (len : Word) (s : State) : advance len (.ok s) = .next (s.setPc (s.pc + len)) := rfl

/-! ### Memory -/

theorem memRead_of_accessible {a : Word} (h : kindAt s a ≠ .device) (k : Nat) : memRead k a s = .ok (peek k a s) := by
  unfold memRead; split <;> simp_all

theorem memRead_of_device {a : Word} (h : kindAt s a = .device) (k : Nat) :
    memRead k a s = .error (.deviceAccess a) := by
  simp [memRead, h]

theorem memRead_eq_ok {k : Nat} {a : Word} {v : Byte} :
    memRead k a s = .ok v ↔ kindAt s a ≠ .device ∧ v = peek k a s := by
  by_cases h : kindAt s a = .device
  · simp [memRead, h]
  · simp [memRead_of_accessible h, h, eq_comm]

/-- The memory after a byte store: only ram takes it (R43). -/
def storedMem (s : State) (a : Word) (v : Byte) : Memory :=
  if kindAt s a = .ram then s.mem.write a.toNat v else s.mem

theorem storedMem_read (s : State) (a : Word) (v : Byte) (k : Nat) :
    (storedMem s a v).read k = if k = a.toNat ∧ kindAt s a = .ram then v else s.mem.read k := by
  unfold storedMem
  by_cases h : kindAt s a = .ram <;> simp [h, Memory.read_write]

theorem storedMem_wf (h : s.mem.wf = true) (a : Word) (v : Byte) : (storedMem s a v).wf = true := by
  unfold storedMem
  split
  · exact Memory.wf_write h a.isLt v
  · exact h

theorem memWrite_of_accessible {a : Word} (h : kindAt s a ≠ .device) (v : Byte) :
    memWrite a v s = .ok (s.setMem (storedMem s a v)) := by
  unfold memWrite storedMem
  split <;> simp_all [State.setMem]

theorem memWrite_of_device {a : Word} (h : kindAt s a = .device) (v : Byte) :
    memWrite a v s = .error (.deviceAccess a) := by
  simp [memWrite, h]

theorem memWrite_eq_ok {a : Word} {v : Byte} :
    memWrite a v s = .ok t ↔ kindAt s a ≠ .device ∧ t = s.setMem (storedMem s a v) := by
  by_cases h : kindAt s a = .device
  · simp [memWrite, h]
  · simp [memWrite_of_accessible h, h, eq_comm]

theorem read16_eq_ok {k : Nat} {a w : Word} :
    read16 k a s = .ok w ↔ kindAt s a ≠ .device ∧ kindAt s (a + 1#16) ≠ .device ∧
      w = mkWord (peek (k + 1) (a + 1#16) s) (peek k a s) := by
  simp only [read16, bind_eq_ok, memRead_eq_ok, pure_eq_ok, Except.ok.injEq]
  constructor
  · rintro ⟨_, ⟨h1, rfl⟩, _, ⟨h2, rfl⟩, rfl⟩; exact ⟨h1, h2, rfl⟩
  · rintro ⟨h1, h2, rfl⟩; exact ⟨_, ⟨h1, rfl⟩, _, ⟨h2, rfl⟩, rfl⟩

theorem read16bp_eq_ok {k : Nat} {off : Byte} {w : Word} :
    read16bp k off s = .ok w ↔ kindAt s (basePage off s) ≠ .device ∧ kindAt s (basePage (off + 1#8) s) ≠ .device ∧
      w = mkWord (peek (k + 1) (basePage (off + 1#8) s) s) (peek k (basePage off s) s) := by
  simp only [read16bp, bind_eq_ok, memRead_eq_ok, pure_eq_ok, Except.ok.injEq]
  constructor
  · rintro ⟨_, ⟨h1, rfl⟩, _, ⟨h2, rfl⟩, rfl⟩; exact ⟨h1, h2, rfl⟩
  · rintro ⟨h1, h2, rfl⟩; exact ⟨_, ⟨h1, rfl⟩, _, ⟨h2, rfl⟩, rfl⟩

/-- The memory after two byte stores, the first named first. -/
def storedMem2 (s : State) (a : Word) (v : Byte) (b : Word) (w : Byte) : Memory :=
  storedMem (s.setMem (storedMem s a v)) b w

theorem storedMem2_wf (h : s.mem.wf = true) (a : Word) (v : Byte) (b : Word) (w : Byte) :
    (storedMem2 s a v b w).wf = true :=
  storedMem_wf (s := s.setMem _) (storedMem_wf h a v) b w

theorem writeWord_eq_ok {lo hi w : Word} :
    writeWord lo hi w s = .ok t ↔ kindAt s lo ≠ .device ∧ kindAt s hi ≠ .device ∧
      t = s.setMem (match s.cfg.wordRmwOrder with
        | .loHi => storedMem2 s lo (loByte w) hi (hiByte w)
        | .hiLo => storedMem2 s hi (hiByte w) lo (loByte w)) := by
  unfold writeWord
  cases s.cfg.wordRmwOrder <;> simp only [bind_eq_ok, memWrite_eq_ok, storedMem2]
  · constructor
    · rintro ⟨_, ⟨h1, rfl⟩, h2, rfl⟩; exact ⟨h1, h2, rfl⟩
    · rintro ⟨h1, h2, rfl⟩; exact ⟨_, ⟨h1, rfl⟩, h2, rfl⟩
  · constructor
    · rintro ⟨_, ⟨h1, rfl⟩, h2, rfl⟩; exact ⟨h2, h1, rfl⟩
    · rintro ⟨h1, h2, rfl⟩; exact ⟨_, ⟨h2, rfl⟩, h1, rfl⟩

/-! ### Stack -/

theorem push_eq_ok {v : Byte} :
    push v s = .ok t ↔ kindAt s s.sp ≠ .device ∧
      t = (s.setMem (storedMem s s.sp v)).setSp (stackDec s.p.e s.sp) := by
  simp only [push, bind_eq_ok, memWrite_eq_ok, pure_eq_ok, Except.ok.injEq]
  constructor
  · rintro ⟨_, ⟨h, rfl⟩, rfl⟩; exact ⟨h, rfl⟩
  · rintro ⟨h, rfl⟩; exact ⟨_, ⟨h, rfl⟩, rfl⟩

theorem pull_eq_ok {k : Nat} {v : Byte} :
    pull k s = .ok (v, t) ↔ kindAt s (stackInc s.p.e s.sp) ≠ .device ∧ v = peek k (stackInc s.p.e s.sp) s ∧
      t = s.setSp (stackInc s.p.e s.sp) := by
  simp only [pull, bind_eq_ok, pure_eq_ok, Except.ok.injEq, Prod.mk.injEq, memRead_eq_ok]
  constructor
  · rintro ⟨_, ⟨h, rfl⟩, rfl, rfl⟩; exact ⟨h, rfl, rfl⟩
  · rintro ⟨h, rfl, rfl⟩; exact ⟨_, ⟨h, rfl⟩, rfl, rfl⟩

theorem pushWord_eq_ok {w : Word} :
    pushWord w s = .ok t ↔ kindAt s s.sp ≠ .device ∧ kindAt s (stackDec s.p.e s.sp) ≠ .device ∧
      t = (s.setMem (storedMem2 s s.sp (hiByte w) (stackDec s.p.e s.sp) (loByte w))).setSp
        (stackDec s.p.e (stackDec s.p.e s.sp)) := by
  simp only [pushWord, bind_eq_ok, push_eq_ok]
  constructor
  · rintro ⟨_, ⟨h1, rfl⟩, h2, rfl⟩; exact ⟨h1, h2, rfl⟩
  · rintro ⟨h1, h2, rfl⟩; exact ⟨_, ⟨h1, rfl⟩, h2, rfl⟩

theorem pullWord_eq_ok {k : Nat} {w : Word} :
    pullWord k s = .ok (w, t) ↔
      let a1 := stackInc s.p.e s.sp
      let a2 := stackInc s.p.e a1
      kindAt s a1 ≠ .device ∧ kindAt s a2 ≠ .device ∧ w = mkWord (peek (k + 1) a2 s) (peek k a1 s) ∧
        t = s.setSp a2 := by
  simp only [pullWord, bind_eq_ok, pure_eq_ok, Except.ok.injEq, Prod.mk.injEq, Prod.exists, pull_eq_ok]
  constructor
  · rintro ⟨_, _, ⟨h1, rfl, rfl⟩, _, _, ⟨h2, rfl, rfl⟩, rfl, rfl⟩; exact ⟨h1, h2, rfl, rfl⟩
  · rintro ⟨h1, h2, rfl, rfl⟩; exact ⟨_, _, ⟨h1, rfl, rfl⟩, _, _, ⟨h2, rfl, rfl⟩, rfl, rfl⟩

/-! ### Exceptions and reset -/

/-- The memory after the three bytes of a trap entry are pushed (R266). -/
def trapMem (s : State) (ret : Word) (brk : Bool) : Memory :=
  storedMem (s.setMem (storedMem2 s s.sp (hiByte ret) (stackDec s.p.e s.sp) (loByte ret)))
    (stackDec s.p.e (stackDec s.p.e s.sp)) (packP brk s.p)

theorem trapMem_wf (h : s.mem.wf = true) (ret : Word) (brk : Bool) : (trapMem s ret brk).wf = true :=
  storedMem_wf (s := s.setMem _) (storedMem2_wf h _ _ _ _) _ _

/-- The state after the three pushes of a trap entry and its writes to P (R266). -/
def trapPushed (s : State) (ret : Word) (brk : Bool) : State :=
  (((s.setMem (trapMem s ret brk)).setSp (stackDec s.p.e (stackDec s.p.e (stackDec s.p.e s.sp)))).setP
    { s.p with i := true, d := false })

/-- The pushes of a trap entry answer that state and nothing else. -/
theorem trapPushes_eq_ok {ret : Word} {brk : Bool} {u : State} :
    (pushWord ret s >>= fun s1 => push (packP brk s1.p) s1) = .ok u ↔
      kindAt s s.sp ≠ .device ∧ kindAt s (stackDec s.p.e s.sp) ≠ .device ∧
      kindAt s (stackDec s.p.e (stackDec s.p.e s.sp)) ≠ .device ∧
      u = (s.setMem (trapMem s ret brk)).setSp (stackDec s.p.e (stackDec s.p.e (stackDec s.p.e s.sp))) := by
  simp only [bind_eq_ok, pushWord_eq_ok, push_eq_ok]
  constructor
  · rintro ⟨_, ⟨h1, h2, rfl⟩, h3, rfl⟩; exact ⟨h1, h2, h3, rfl⟩
  · rintro ⟨h1, h2, h3, rfl⟩; exact ⟨_, ⟨h1, h2, rfl⟩, h3, rfl⟩

/-- Trap entry: the state with the three bytes pushed, I set, D cleared, and PC from the vector (R266). -/
theorem trapEntry_eq_ok {vec ret : Word} {brk : Bool} :
    trapEntry vec ret brk s = .ok t ↔
      kindAt s s.sp ≠ .device ∧ kindAt s (stackDec s.p.e s.sp) ≠ .device ∧
      kindAt s (stackDec s.p.e (stackDec s.p.e s.sp)) ≠ .device ∧
      kindAt s vec ≠ .device ∧ kindAt s (vec + 1#16) ≠ .device ∧
      t = (trapPushed s ret brk).setPc
        (mkWord (peek 1 (vec + 1#16) (trapPushed s ret brk)) (peek 0 vec (trapPushed s ret brk))) := by
  have split : trapEntry vec ret brk s =
      ((pushWord ret s >>= fun s1 => push (packP brk s1.p) s1) >>= fun s2 =>
        read16 0 vec (s2.setP { s2.p with i := true, d := false }) >>= fun target =>
          .ok ((s2.setP { s2.p with i := true, d := false }).setPc target)) := by
    unfold trapEntry
    cases pushWord ret s <;> rfl
  rw [split, bind_eq_ok]
  simp only [trapPushes_eq_ok]
  simp only [bind_eq_ok, read16_eq_ok, Except.ok.injEq]
  constructor
  · rintro ⟨_, ⟨h1, h2, h3, rfl⟩, _, ⟨h4, h5, rfl⟩, rfl⟩; exact ⟨h1, h2, h3, h4, h5, rfl⟩
  · rintro ⟨h1, h2, h3, h4, h5, rfl⟩; exact ⟨_, ⟨h1, h2, h3, rfl⟩, _, ⟨h4, h5, rfl⟩, rfl⟩

/-- RTI's return (R135, R268). -/
theorem trapReturn_eq_ok :
    trapReturn s = .ok t ↔
      let a1 := stackInc s.p.e s.sp
      let a2 := stackInc s.p.e a1
      let a3 := stackInc s.p.e a2
      kindAt s a1 ≠ .device ∧ kindAt s a2 ≠ .device ∧ kindAt s a3 ≠ .device ∧
      t = { s with p := unpackP (peek 0 a1 s) s.p, sp := a3, pc := mkWord (peek 2 a3 s) (peek 1 a2 s) } := by
  simp only [trapReturn, bind_eq_ok, pull_eq_ok, pullWord_eq_ok, pure_eq_ok, Except.ok.injEq, Prod.exists]
  constructor
  · rintro ⟨_, _, ⟨h1, rfl, rfl⟩, _, _, ⟨h2, h3, rfl, rfl⟩, rfl⟩
    exact ⟨h1, h2, h3, rfl⟩
  · rintro ⟨h1, h2, h3, rfl⟩
    exact ⟨_, _, ⟨h1, rfl, rfl⟩, _, _, ⟨h2, h3, rfl, rfl⟩, rfl⟩

/-- The reset sequence (R290): memory, the inputs and the parameters stay; the rest is as listed. -/
theorem resetSequence_eq_ok :
    resetSequence s = .ok t ↔ kindAt s s.cfg.vecReset ≠ .device ∧ kindAt s (s.cfg.vecReset + 1#16) ≠ .device ∧
      t = { s with
        a := Config.resetA s.draws
        x := Config.resetX s.draws
        y := Config.resetY s.draws
        z := 0x00#8
        b := 0x00#8
        sp := mkWord 0x01#8 (Config.resetSL s.draws)
        p := { n := Config.resetN s.draws, v := Config.resetV s.draws, e := true, d := false, i := true,
               z := Config.resetZ s.draws, c := Config.resetC s.draws }
        nmiPending := false
        pc := mkWord (peek 1 (s.cfg.vecReset + 1#16) s) (peek 0 s.cfg.vecReset s) } := by
  simp only [resetSequence, bind_eq_ok, read16_eq_ok, pure_eq_ok, Except.ok.injEq]
  constructor
  · rintro ⟨_, ⟨h1, h2, rfl⟩, rfl⟩; exact ⟨h1, h2, rfl⟩
  · rintro ⟨h1, h2, rfl⟩; exact ⟨_, ⟨h1, h2, rfl⟩, rfl⟩

/-! ### The shapes of instruction -/

theorem readSource_mem_eq_ok {m : Mode} {v : Byte} :
    readSource (.mem m) s = .ok v ↔ ∃ ea, effectiveAddress m s = .ok ea ∧ kindAt s ea ≠ .device ∧ v = peek 2 ea s := by
  simp only [readSource, bind_eq_ok, memRead_eq_ok]

theorem load_eq_ok {set : Byte → State → State} {o : Source} :
    load set o s = .ok t ↔ ∃ v, readSource o s = .ok v ∧ t = (set v s).setP (setNZ v s.p) := by
  simp only [load, bind_eq_ok, pure_eq_ok, Except.ok.injEq, @eq_comm _ _ t]

theorem store_eq_ok {v : Byte} {m : Mode} :
    store v m s = .ok t ↔ ∃ ea, effectiveAddress m s = .ok ea ∧ kindAt s ea ≠ .device ∧
      t = s.setMem (storedMem s ea v) := by
  simp only [store, bind_eq_ok, memWrite_eq_ok]

theorem accumulate_eq_ok {f : Byte → Byte → Flags → Byte × Flags} {o : Source} :
    accumulate f o s = .ok t ↔ ∃ m, readSource o s = .ok m ∧ t = (s.setA (f s.a m s.p).1).setP (f s.a m s.p).2 := by
  simp only [accumulate, bind_eq_ok, pure_eq_ok, Except.ok.injEq, @eq_comm _ _ t]

theorem testOperand_eq_ok {f : Byte → Byte → Flags → Flags} {reg : Byte} {o : Source} :
    testOperand f reg o s = .ok t ↔ ∃ m, readSource o s = .ok m ∧ t = s.setP (f reg m s.p) := by
  simp only [testOperand, bind_eq_ok, pure_eq_ok, Except.ok.injEq, @eq_comm _ _ t]

theorem modify_mem_eq_ok {f : Byte → Flags → Byte × Flags} {m : Mode} :
    modify f (.mem m) s = .ok t ↔ ∃ ea, effectiveAddress m s = .ok ea ∧ kindAt s ea ≠ .device ∧
      t = (s.setMem (storedMem s ea (f (peek 2 ea s) s.p).1)).setP (f (peek 2 ea s) s.p).2 := by
  simp only [modify, bind_eq_ok, memRead_eq_ok, memWrite_eq_ok, pure_eq_ok, Except.ok.injEq]
  constructor
  · rintro ⟨ea, h1, _, ⟨h2, rfl⟩, _, ⟨_, rfl⟩, rfl⟩; exact ⟨ea, h1, h2, rfl⟩
  · rintro ⟨ea, h1, h2, rfl⟩; exact ⟨ea, h1, _, ⟨h2, rfl⟩, _, ⟨h2, rfl⟩, rfl⟩

@[simp] theorem modify_acc (f : Byte → Flags → Byte × Flags) :
    modify f .acc s = .ok ((s.setA (f s.a s.p).1).setP (f s.a s.p).2) := rfl

/-- A word read-modify-write: what it stores, and where (R50, R52). -/
theorem modifyWord_eq_ok {f : Word → Flags → Word × Flags} {lo hi : Word} :
    modifyWord f lo hi s = .ok t ↔ kindAt s lo ≠ .device ∧ kindAt s hi ≠ .device ∧
      ∃ u, writeWord lo hi (f (mkWord (peek 3 hi s) (peek 2 lo s)) s.p).1 s = .ok u ∧
        t = u.setP (f (mkWord (peek 3 hi s) (peek 2 lo s)) s.p).2 := by
  simp only [modifyWord, bind_eq_ok, memRead_eq_ok, pure_eq_ok, Except.ok.injEq]
  constructor
  · rintro ⟨_, ⟨h1, rfl⟩, _, ⟨h2, rfl⟩, u, h3, rfl⟩; exact ⟨h1, h2, u, h3, rfl⟩
  · rintro ⟨h1, h2, u, h3, rfl⟩; exact ⟨_, ⟨h1, rfl⟩, _, ⟨h2, rfl⟩, u, h3, rfl⟩

theorem pullReg_eq_ok {set : Byte → State → State} :
    pullReg set s = .ok t ↔ kindAt s (stackInc s.p.e s.sp) ≠ .device ∧
      t = (set (peek 0 (stackInc s.p.e s.sp) s) (s.setSp (stackInc s.p.e s.sp))).setP
        (setNZ (peek 0 (stackInc s.p.e s.sp) s) s.p) := by
  simp only [pullReg, bind_eq_ok, pull_eq_ok, pure_eq_ok, Except.ok.injEq, Prod.exists]
  constructor
  · rintro ⟨_, _, ⟨h, rfl, rfl⟩, rfl⟩; exact ⟨h, rfl⟩
  · rintro ⟨h, rfl⟩; exact ⟨_, _, ⟨h, rfl, rfl⟩, rfl⟩

theorem pushOperandWord_eq_ok {w : Word} :
    pushOperandWord w s = .ok t ↔ kindAt s s.sp ≠ .device ∧ kindAt s (stackDec s.p.e s.sp) ≠ .device ∧
      t = (s.setMem (storedMem2 s s.sp (if s.cfg.phwOrder = .highFirst then hiByte w else loByte w)
          (stackDec s.p.e s.sp) (if s.cfg.phwOrder = .highFirst then loByte w else hiByte w))).setSp
        (stackDec s.p.e (stackDec s.p.e s.sp)) := by
  unfold pushOperandWord
  cases s.cfg.phwOrder <;> simp only [bind_eq_ok, push_eq_ok]
  · constructor
    · rintro ⟨_, ⟨h1, rfl⟩, h2, rfl⟩; exact ⟨h1, h2, rfl⟩
    · rintro ⟨h1, h2, rfl⟩; exact ⟨_, ⟨h1, rfl⟩, h2, rfl⟩
  · constructor
    · rintro ⟨_, ⟨h1, rfl⟩, h2, rfl⟩; exact ⟨h1, h2, rfl⟩
    · rintro ⟨h1, h2, rfl⟩; exact ⟨_, ⟨h1, rfl⟩, h2, rfl⟩

theorem branchBit_eq_ok {n : Nat} {want : Bool} {a r : Byte} :
    branchBit n want a r s = .ok t ↔ kindAt s (basePage a s) ≠ .device ∧
      t = s.setPc (if (peek 2 (basePage a s) s).getLsbD n = want then s.pc + 3#16 + sext16 r else s.pc + 3#16) := by
  simp only [branchBit, bind_eq_ok, memRead_eq_ok, pure_eq_ok, Except.ok.injEq]
  constructor
  · rintro ⟨_, ⟨h, rfl⟩, rfl⟩; exact ⟨h, rfl⟩
  · rintro ⟨h, rfl⟩; exact ⟨_, ⟨h, rfl⟩, rfl⟩

theorem jumpThrough_eq_ok {q : Word} :
    jumpThrough q s = .ok t ↔ kindAt s q ≠ .device ∧ kindAt s (q + 1#16) ≠ .device ∧
      t = s.setPc (mkWord (peek 1 (q + 1#16) s) (peek 0 q s)) := by
  simp only [jumpThrough, bind_eq_ok, read16_eq_ok, pure_eq_ok, Except.ok.injEq]
  constructor
  · rintro ⟨_, ⟨h1, h2, rfl⟩, rfl⟩; exact ⟨h1, h2, rfl⟩
  · rintro ⟨h1, h2, rfl⟩; exact ⟨_, ⟨h1, h2, rfl⟩, rfl⟩

theorem returnSub_eq_ok :
    returnSub s = .ok t ↔
      let a1 := stackInc s.p.e s.sp
      let a2 := stackInc s.p.e a1
      kindAt s a1 ≠ .device ∧ kindAt s a2 ≠ .device ∧
        t = (s.setSp a2).setPc (mkWord (peek 1 a2 s) (peek 0 a1 s) + 1#16) := by
  simp only [returnSub, bind_eq_ok, pullWord_eq_ok, pure_eq_ok, Except.ok.injEq, Prod.exists]
  constructor
  · rintro ⟨_, _, ⟨h1, h2, rfl, rfl⟩, rfl⟩; exact ⟨h1, h2, rfl⟩
  · rintro ⟨h1, h2, rfl⟩; exact ⟨_, _, ⟨h1, h2, rfl, rfl⟩, rfl⟩

theorem returnAdjust_eq_ok {d : Byte} :
    returnAdjust d s = .ok t ↔
      let a0 := stackAdd s.p.e s.sp (rtnBefore d s)
      let a1 := stackInc s.p.e a0
      let a2 := stackInc s.p.e a1
      kindAt s a1 ≠ .device ∧ kindAt s a2 ≠ .device ∧
        t = (s.setSp (stackAdd s.p.e a2 (d - rtnBefore d s))).setPc (mkWord (peek 1 a2 s) (peek 0 a1 s) + 1#16) := by
  simp only [returnAdjust, bind_eq_ok, pullWord_eq_ok, pure_eq_ok, Except.ok.injEq, Prod.exists]
  constructor
  · rintro ⟨_, _, ⟨h1, h2, rfl, rfl⟩, rfl⟩; exact ⟨h1, h2, rfl⟩
  · rintro ⟨h1, h2, rfl⟩; exact ⟨_, _, ⟨h1, h2, rfl, rfl⟩, rfl⟩

end Sys2Proof.Machine
end

