-- ==== Sys2Proof/Laws/PerInstr.lean ====
section
/-! SUPPORT. Statements about every instruction, proved one constructor at a time. -/

namespace Sys2Proof.Laws.EncodesToTableLength

open Sys2Proof

/-- The encoder, which follows the opcode map (R101) and the formats (R73), writes as many bytes as the length
table (R71) gives for the first of them. -/
def Statement (i : Instr) : Prop := wellFormedBytes (encode i) = true

theorem brk (skipped : Byte) : Statement (.brk skipped) := rfl
theorem oraIndX (a : Byte) : Statement (.oraIndX a) := rfl
theorem cle : Statement (.cle) := rfl
theorem see : Statement (.see) := rfl
theorem tsbBp (a : Byte) : Statement (.tsbBp a) := rfl
theorem oraBp (a : Byte) : Statement (.oraBp a) := rfl
theorem aslBp (a : Byte) : Statement (.aslBp a) := rfl
theorem rmb0 (a : Byte) : Statement (.rmb0 a) := rfl
theorem php : Statement (.php) := rfl
theorem oraImm (d : Byte) : Statement (.oraImm d) := rfl
theorem aslA : Statement (.aslA) := rfl
theorem tsy : Statement (.tsy) := rfl
theorem tsbAbs (a : Word) : Statement (.tsbAbs a) := rfl
theorem oraAbs (a : Word) : Statement (.oraAbs a) := rfl
theorem aslAbs (a : Word) : Statement (.aslAbs a) := rfl
theorem bbr0 (a : Byte) (r : Byte) : Statement (.bbr0 a r) := rfl
theorem bplR8 (r : Byte) : Statement (.bplR8 r) := rfl
theorem oraIndY (a : Byte) : Statement (.oraIndY a) := rfl
theorem oraIndZ (a : Byte) : Statement (.oraIndZ a) := rfl
theorem bplR16 (r : Word) : Statement (.bplR16 r) := rfl
theorem trbBp (a : Byte) : Statement (.trbBp a) := rfl
theorem oraBpX (a : Byte) : Statement (.oraBpX a) := rfl
theorem aslBpX (a : Byte) : Statement (.aslBpX a) := rfl
theorem rmb1 (a : Byte) : Statement (.rmb1 a) := rfl
theorem clc : Statement (.clc) := rfl
theorem oraAbsY (a : Word) : Statement (.oraAbsY a) := rfl
theorem incA : Statement (.incA) := rfl
theorem inz : Statement (.inz) := rfl
theorem trbAbs (a : Word) : Statement (.trbAbs a) := rfl
theorem oraAbsX (a : Word) : Statement (.oraAbsX a) := rfl
theorem aslAbsX (a : Word) : Statement (.aslAbsX a) := rfl
theorem bbr1 (a : Byte) (r : Byte) : Statement (.bbr1 a r) := rfl
theorem jsrAbs (a : Word) : Statement (.jsrAbs a) := rfl
theorem andIndX (a : Byte) : Statement (.andIndX a) := rfl
theorem jsrAbsInd (a : Word) : Statement (.jsrAbsInd a) := rfl
theorem jsrAbsXInd (a : Word) : Statement (.jsrAbsXInd a) := rfl
theorem bitBp (a : Byte) : Statement (.bitBp a) := rfl
theorem andBp (a : Byte) : Statement (.andBp a) := rfl
theorem rolBp (a : Byte) : Statement (.rolBp a) := rfl
theorem rmb2 (a : Byte) : Statement (.rmb2 a) := rfl
theorem plp : Statement (.plp) := rfl
theorem andImm (d : Byte) : Statement (.andImm d) := rfl
theorem rolA : Statement (.rolA) := rfl
theorem tys : Statement (.tys) := rfl
theorem bitAbs (a : Word) : Statement (.bitAbs a) := rfl
theorem andAbs (a : Word) : Statement (.andAbs a) := rfl
theorem rolAbs (a : Word) : Statement (.rolAbs a) := rfl
theorem bbr2 (a : Byte) (r : Byte) : Statement (.bbr2 a r) := rfl
theorem bmiR8 (r : Byte) : Statement (.bmiR8 r) := rfl
theorem andIndY (a : Byte) : Statement (.andIndY a) := rfl
theorem andIndZ (a : Byte) : Statement (.andIndZ a) := rfl
theorem bmiR16 (r : Word) : Statement (.bmiR16 r) := rfl
theorem bitBpX (a : Byte) : Statement (.bitBpX a) := rfl
theorem andBpX (a : Byte) : Statement (.andBpX a) := rfl
theorem rolBpX (a : Byte) : Statement (.rolBpX a) := rfl
theorem rmb3 (a : Byte) : Statement (.rmb3 a) := rfl
theorem sec : Statement (.sec) := rfl
theorem andAbsY (a : Word) : Statement (.andAbsY a) := rfl
theorem decA : Statement (.decA) := rfl
theorem dez : Statement (.dez) := rfl
theorem bitAbsX (a : Word) : Statement (.bitAbsX a) := rfl
theorem andAbsX (a : Word) : Statement (.andAbsX a) := rfl
theorem rolAbsX (a : Word) : Statement (.rolAbsX a) := rfl
theorem bbr3 (a : Byte) (r : Byte) : Statement (.bbr3 a r) := rfl
theorem rti : Statement (.rti) := rfl
theorem eorIndX (a : Byte) : Statement (.eorIndX a) := rfl
theorem neg : Statement (.neg) := rfl
theorem asrA : Statement (.asrA) := rfl
theorem asrBp (a : Byte) : Statement (.asrBp a) := rfl
theorem eorBp (a : Byte) : Statement (.eorBp a) := rfl
theorem lsrBp (a : Byte) : Statement (.lsrBp a) := rfl
theorem rmb4 (a : Byte) : Statement (.rmb4 a) := rfl
theorem pha : Statement (.pha) := rfl
theorem eorImm (d : Byte) : Statement (.eorImm d) := rfl
theorem lsrA : Statement (.lsrA) := rfl
theorem taz : Statement (.taz) := rfl
theorem jmpAbs (a : Word) : Statement (.jmpAbs a) := rfl
theorem eorAbs (a : Word) : Statement (.eorAbs a) := rfl
theorem lsrAbs (a : Word) : Statement (.lsrAbs a) := rfl
theorem bbr4 (a : Byte) (r : Byte) : Statement (.bbr4 a r) := rfl
theorem bvcR8 (r : Byte) : Statement (.bvcR8 r) := rfl
theorem eorIndY (a : Byte) : Statement (.eorIndY a) := rfl
theorem eorIndZ (a : Byte) : Statement (.eorIndZ a) := rfl
theorem bvcR16 (r : Word) : Statement (.bvcR16 r) := rfl
theorem asrBpX (a : Byte) : Statement (.asrBpX a) := rfl
theorem eorBpX (a : Byte) : Statement (.eorBpX a) := rfl
theorem lsrBpX (a : Byte) : Statement (.lsrBpX a) := rfl
theorem rmb5 (a : Byte) : Statement (.rmb5 a) := rfl
theorem cli : Statement (.cli) := rfl
theorem eorAbsY (a : Word) : Statement (.eorAbsY a) := rfl
theorem phy : Statement (.phy) := rfl
theorem tab : Statement (.tab) := rfl
theorem aug (b1 : Byte) (b2 : Byte) (b3 : Byte) : Statement (.aug b1 b2 b3) := rfl
theorem eorAbsX (a : Word) : Statement (.eorAbsX a) := rfl
theorem lsrAbsX (a : Word) : Statement (.lsrAbsX a) := rfl
theorem bbr5 (a : Byte) (r : Byte) : Statement (.bbr5 a r) := rfl
theorem rts : Statement (.rts) := rfl
theorem adcIndX (a : Byte) : Statement (.adcIndX a) := rfl
theorem rtn (d : Byte) : Statement (.rtn d) := rfl
theorem bsr (r : Word) : Statement (.bsr r) := rfl
theorem stzBp (a : Byte) : Statement (.stzBp a) := rfl
theorem adcBp (a : Byte) : Statement (.adcBp a) := rfl
theorem rorBp (a : Byte) : Statement (.rorBp a) := rfl
theorem rmb6 (a : Byte) : Statement (.rmb6 a) := rfl
theorem pla : Statement (.pla) := rfl
theorem adcImm (d : Byte) : Statement (.adcImm d) := rfl
theorem rorA : Statement (.rorA) := rfl
theorem tza : Statement (.tza) := rfl
theorem jmpAbsInd (a : Word) : Statement (.jmpAbsInd a) := rfl
theorem adcAbs (a : Word) : Statement (.adcAbs a) := rfl
theorem rorAbs (a : Word) : Statement (.rorAbs a) := rfl
theorem bbr6 (a : Byte) (r : Byte) : Statement (.bbr6 a r) := rfl
theorem bvsR8 (r : Byte) : Statement (.bvsR8 r) := rfl
theorem adcIndY (a : Byte) : Statement (.adcIndY a) := rfl
theorem adcIndZ (a : Byte) : Statement (.adcIndZ a) := rfl
theorem bvsR16 (r : Word) : Statement (.bvsR16 r) := rfl
theorem stzBpX (a : Byte) : Statement (.stzBpX a) := rfl
theorem adcBpX (a : Byte) : Statement (.adcBpX a) := rfl
theorem rorBpX (a : Byte) : Statement (.rorBpX a) := rfl
theorem rmb7 (a : Byte) : Statement (.rmb7 a) := rfl
theorem sei : Statement (.sei) := rfl
theorem adcAbsY (a : Word) : Statement (.adcAbsY a) := rfl
theorem ply : Statement (.ply) := rfl
theorem tba : Statement (.tba) := rfl
theorem jmpAbsXInd (a : Word) : Statement (.jmpAbsXInd a) := rfl
theorem adcAbsX (a : Word) : Statement (.adcAbsX a) := rfl
theorem rorAbsX (a : Word) : Statement (.rorAbsX a) := rfl
theorem bbr7 (a : Byte) (r : Byte) : Statement (.bbr7 a r) := rfl
theorem braR8 (r : Byte) : Statement (.braR8 r) := rfl
theorem staIndX (a : Byte) : Statement (.staIndX a) := rfl
theorem staSpIndY (d : Byte) : Statement (.staSpIndY d) := rfl
theorem braR16 (r : Word) : Statement (.braR16 r) := rfl
theorem styBp (a : Byte) : Statement (.styBp a) := rfl
theorem staBp (a : Byte) : Statement (.staBp a) := rfl
theorem stxBp (a : Byte) : Statement (.stxBp a) := rfl
theorem smb0 (a : Byte) : Statement (.smb0 a) := rfl
theorem dey : Statement (.dey) := rfl
theorem bitImm (d : Byte) : Statement (.bitImm d) := rfl
theorem txa : Statement (.txa) := rfl
theorem styAbsX (a : Word) : Statement (.styAbsX a) := rfl
theorem styAbs (a : Word) : Statement (.styAbs a) := rfl
theorem staAbs (a : Word) : Statement (.staAbs a) := rfl
theorem stxAbs (a : Word) : Statement (.stxAbs a) := rfl
theorem bbs0 (a : Byte) (r : Byte) : Statement (.bbs0 a r) := rfl
theorem bccR8 (r : Byte) : Statement (.bccR8 r) := rfl
theorem staIndY (a : Byte) : Statement (.staIndY a) := rfl
theorem staIndZ (a : Byte) : Statement (.staIndZ a) := rfl
theorem bccR16 (r : Word) : Statement (.bccR16 r) := rfl
theorem styBpX (a : Byte) : Statement (.styBpX a) := rfl
theorem staBpX (a : Byte) : Statement (.staBpX a) := rfl
theorem stxBpY (a : Byte) : Statement (.stxBpY a) := rfl
theorem smb1 (a : Byte) : Statement (.smb1 a) := rfl
theorem tya : Statement (.tya) := rfl
theorem staAbsY (a : Word) : Statement (.staAbsY a) := rfl
theorem txs : Statement (.txs) := rfl
theorem stxAbsY (a : Word) : Statement (.stxAbsY a) := rfl
theorem stzAbs (a : Word) : Statement (.stzAbs a) := rfl
theorem staAbsX (a : Word) : Statement (.staAbsX a) := rfl
theorem stzAbsX (a : Word) : Statement (.stzAbsX a) := rfl
theorem bbs1 (a : Byte) (r : Byte) : Statement (.bbs1 a r) := rfl
theorem ldyImm (d : Byte) : Statement (.ldyImm d) := rfl
theorem ldaIndX (a : Byte) : Statement (.ldaIndX a) := rfl
theorem ldxImm (d : Byte) : Statement (.ldxImm d) := rfl
theorem ldzImm (d : Byte) : Statement (.ldzImm d) := rfl
theorem ldyBp (a : Byte) : Statement (.ldyBp a) := rfl
theorem ldaBp (a : Byte) : Statement (.ldaBp a) := rfl
theorem ldxBp (a : Byte) : Statement (.ldxBp a) := rfl
theorem smb2 (a : Byte) : Statement (.smb2 a) := rfl
theorem tay : Statement (.tay) := rfl
theorem ldaImm (d : Byte) : Statement (.ldaImm d) := rfl
theorem tax : Statement (.tax) := rfl
theorem ldzAbs (a : Word) : Statement (.ldzAbs a) := rfl
theorem ldyAbs (a : Word) : Statement (.ldyAbs a) := rfl
theorem ldaAbs (a : Word) : Statement (.ldaAbs a) := rfl
theorem ldxAbs (a : Word) : Statement (.ldxAbs a) := rfl
theorem bbs2 (a : Byte) (r : Byte) : Statement (.bbs2 a r) := rfl
theorem bcsR8 (r : Byte) : Statement (.bcsR8 r) := rfl
theorem ldaIndY (a : Byte) : Statement (.ldaIndY a) := rfl
theorem ldaIndZ (a : Byte) : Statement (.ldaIndZ a) := rfl
theorem bcsR16 (r : Word) : Statement (.bcsR16 r) := rfl
theorem ldyBpX (a : Byte) : Statement (.ldyBpX a) := rfl
theorem ldaBpX (a : Byte) : Statement (.ldaBpX a) := rfl
theorem ldxBpY (a : Byte) : Statement (.ldxBpY a) := rfl
theorem smb3 (a : Byte) : Statement (.smb3 a) := rfl
theorem clv : Statement (.clv) := rfl
theorem ldaAbsY (a : Word) : Statement (.ldaAbsY a) := rfl
theorem tsx : Statement (.tsx) := rfl
theorem ldzAbsX (a : Word) : Statement (.ldzAbsX a) := rfl
theorem ldyAbsX (a : Word) : Statement (.ldyAbsX a) := rfl
theorem ldaAbsX (a : Word) : Statement (.ldaAbsX a) := rfl
theorem ldxAbsY (a : Word) : Statement (.ldxAbsY a) := rfl
theorem bbs3 (a : Byte) (r : Byte) : Statement (.bbs3 a r) := rfl
theorem cpyImm (d : Byte) : Statement (.cpyImm d) := rfl
theorem cmpIndX (a : Byte) : Statement (.cmpIndX a) := rfl
theorem cpzImm (d : Byte) : Statement (.cpzImm d) := rfl
theorem dew (a : Byte) : Statement (.dew a) := rfl
theorem cpyBp (a : Byte) : Statement (.cpyBp a) := rfl
theorem cmpBp (a : Byte) : Statement (.cmpBp a) := rfl
theorem decBp (a : Byte) : Statement (.decBp a) := rfl
theorem smb4 (a : Byte) : Statement (.smb4 a) := rfl
theorem iny : Statement (.iny) := rfl
theorem cmpImm (d : Byte) : Statement (.cmpImm d) := rfl
theorem dex : Statement (.dex) := rfl
theorem asw (a : Word) : Statement (.asw a) := rfl
theorem cpyAbs (a : Word) : Statement (.cpyAbs a) := rfl
theorem cmpAbs (a : Word) : Statement (.cmpAbs a) := rfl
theorem decAbs (a : Word) : Statement (.decAbs a) := rfl
theorem bbs4 (a : Byte) (r : Byte) : Statement (.bbs4 a r) := rfl
theorem bneR8 (r : Byte) : Statement (.bneR8 r) := rfl
theorem cmpIndY (a : Byte) : Statement (.cmpIndY a) := rfl
theorem cmpIndZ (a : Byte) : Statement (.cmpIndZ a) := rfl
theorem bneR16 (r : Word) : Statement (.bneR16 r) := rfl
theorem cpzBp (a : Byte) : Statement (.cpzBp a) := rfl
theorem cmpBpX (a : Byte) : Statement (.cmpBpX a) := rfl
theorem decBpX (a : Byte) : Statement (.decBpX a) := rfl
theorem smb5 (a : Byte) : Statement (.smb5 a) := rfl
theorem cld : Statement (.cld) := rfl
theorem cmpAbsY (a : Word) : Statement (.cmpAbsY a) := rfl
theorem phx : Statement (.phx) := rfl
theorem phz : Statement (.phz) := rfl
theorem cpzAbs (a : Word) : Statement (.cpzAbs a) := rfl
theorem cmpAbsX (a : Word) : Statement (.cmpAbsX a) := rfl
theorem decAbsX (a : Word) : Statement (.decAbsX a) := rfl
theorem bbs5 (a : Byte) (r : Byte) : Statement (.bbs5 a r) := rfl
theorem cpxImm (d : Byte) : Statement (.cpxImm d) := rfl
theorem sbcIndX (a : Byte) : Statement (.sbcIndX a) := rfl
theorem ldaSpIndY (d : Byte) : Statement (.ldaSpIndY d) := rfl
theorem inw (a : Byte) : Statement (.inw a) := rfl
theorem cpxBp (a : Byte) : Statement (.cpxBp a) := rfl
theorem sbcBp (a : Byte) : Statement (.sbcBp a) := rfl
theorem incBp (a : Byte) : Statement (.incBp a) := rfl
theorem smb6 (a : Byte) : Statement (.smb6 a) := rfl
theorem inx : Statement (.inx) := rfl
theorem sbcImm (d : Byte) : Statement (.sbcImm d) := rfl
theorem nop : Statement (.nop) := rfl
theorem row (a : Word) : Statement (.row a) := rfl
theorem cpxAbs (a : Word) : Statement (.cpxAbs a) := rfl
theorem sbcAbs (a : Word) : Statement (.sbcAbs a) := rfl
theorem incAbs (a : Word) : Statement (.incAbs a) := rfl
theorem bbs6 (a : Byte) (r : Byte) : Statement (.bbs6 a r) := rfl
theorem beqR8 (r : Byte) : Statement (.beqR8 r) := rfl
theorem sbcIndY (a : Byte) : Statement (.sbcIndY a) := rfl
theorem sbcIndZ (a : Byte) : Statement (.sbcIndZ a) := rfl
theorem beqR16 (r : Word) : Statement (.beqR16 r) := rfl
theorem phwImmWord (d : Word) : Statement (.phwImmWord d) := rfl
theorem sbcBpX (a : Byte) : Statement (.sbcBpX a) := rfl
theorem incBpX (a : Byte) : Statement (.incBpX a) := rfl
theorem smb7 (a : Byte) : Statement (.smb7 a) := rfl
theorem sed : Statement (.sed) := rfl
theorem sbcAbsY (a : Word) : Statement (.sbcAbsY a) := rfl
theorem plx : Statement (.plx) := rfl
theorem plz : Statement (.plz) := rfl
theorem phwAbs (a : Word) : Statement (.phwAbs a) := rfl
theorem sbcAbsX (a : Word) : Statement (.sbcAbsX a) := rfl
theorem incAbsX (a : Word) : Statement (.incAbsX a) := rfl
theorem bbs7 (a : Byte) (r : Byte) : Statement (.bbs7 a r) := rfl

end Sys2Proof.Laws.EncodesToTableLength
end

