-- ==== Sys2Proof/Laws/Run.lean ====
section
/-! SUPPORT. What a run does at one boundary (70_reset_and_hazards.md R300). -/

namespace Sys2Proof.Machine

variable {limit : RunLimit} {s t : State}

/-! ### The limit after each event -/

@[simp] theorem RunLimit.after_reset (limit : RunLimit) : limit.after .reset = limit := rfl
@[simp] theorem RunLimit.after_nmi (limit : RunLimit) : limit.after .nmi = limit := rfl
@[simp] theorem RunLimit.after_irq (limit : RunLimit) : limit.after .irq = limit := rfl
@[simp] theorem RunLimit.after_endPc (limit : RunLimit) (e : Event) : (limit.after e).endPc = limit.endPc := by
  cases e <;> rfl
@[simp] theorem RunLimit.after_instruction_instructions (limit : RunLimit) :
    (limit.after .instruction).instructions = limit.instructions.map (· - 1) := rfl

/-! ### One boundary of a run -/

theorem atEnd_eq_true : atEnd limit s = true ↔ limit.endPc = some s.pc ∨ limit.instructions = some 0 := by
  simp [atEnd]

/-- At its end a run has ended, however many boundaries are looked at. -/
theorem runUntil_of_atEnd (h : atEnd limit s = true) (k : Nat) : runUntil limit k s = .ended s := by
  cases k <;> simp [runUntil, h]

/-- Before its end a run takes one step. -/
theorem runUntil_of_step (h : atEnd limit s = false) (hs : step s = .next t) (k : Nat) :
    runUntil limit (k + 1) s = runUntil (limit.after (acceptedEvent s)) k t := by
  simp [runUntil, h, hs]

end Sys2Proof.Machine
end

