-- ==== Sys2Proof/Laws/Safety.lean ====
section
/-! SUPPORT. The vocabulary of Safety against the machine's operations: the arithmetic of addresses and bytes as
the statements write it (in numbers) is what the operations compute (in bits). -/

namespace Sys2Proof.Machine

/-! ### Words and bytes as numbers -/

theorem mkWord_toNat (hi lo : Byte) : (mkWord hi lo).toNat = hi.toNat * 256 + lo.toNat := by
  have h := lo.isLt
  simp only [mkWord, BitVec.toNat_append]
  rw [← Nat.shiftLeft_add_eq_or_of_lt h, Nat.shiftLeft_eq]

theorem hiByte_toNat (w : Word) : (hiByte w).toNat = w.toNat / 256 := by
  have := w.isLt
  simp only [hiByte, BitVec.extractLsb'_toNat, Nat.shiftRight_eq_div_pow]; omega

theorem loByte_toNat (w : Word) : (loByte w).toNat = w.toNat % 256 := by
  simp [loByte, BitVec.extractLsb'_toNat]

theorem zext16_toNat (v : Byte) : (zext16 v).toNat = v.toNat := by
  have := v.isLt
  simp only [zext16, BitVec.toNat_setWidth]; omega

theorem mkWord_eq_ofNat (hi lo : Byte) : mkWord hi lo = BitVec.ofNat 16 (hi.toNat * 256 + lo.toNat) := by
  apply BitVec.eq_of_toNat_eq
  have h1 := hi.isLt; have h2 := lo.isLt
  rw [mkWord_toNat, BitVec.toNat_ofNat]; omega

@[simp] theorem hiByte_mkWord (hi lo : Byte) : hiByte (mkWord hi lo) = hi := by
  apply BitVec.eq_of_toNat_eq
  have := lo.isLt
  rw [hiByte_toNat, mkWord_toNat]; omega

@[simp] theorem loByte_mkWord (hi lo : Byte) : loByte (mkWord hi lo) = lo := by
  apply BitVec.eq_of_toNat_eq
  have := lo.isLt
  rw [loByte_toNat, mkWord_toNat]; omega

@[simp] theorem mkWord_hiByte_loByte (w : Word) : mkWord (hiByte w) (loByte w) = w := by
  apply BitVec.eq_of_toNat_eq
  rw [mkWord_toNat, hiByte_toNat, loByte_toNat]; omega

/-- Placing bytes keeps the canonical form. -/
theorem placeBytes_wf {bs : List Byte} {addr : Word} {m : Memory} (h : m.wf = true) : (placeBytes bs addr m).wf = true := by
  induction bs generalizing addr m with
  | nil => exact h
  | cons b rest ih => exact ih (Memory.wf_write h addr.isLt b)

/-! ### Stack arithmetic (R16) -/

theorem stackAdd_toNat (e : Bool) (sp : Word) (d : Byte) :
    (stackAdd e sp d).toNat =
      if e then 256 * (sp.toNat / 256) + (sp.toNat + d.toNat) % 256 else (sp.toNat + d.toNat) % 65536 := by
  cases e <;> simp [stackAdd, mkWord_toNat, hiByte_toNat, loByte_toNat, zext16_toNat, BitVec.toNat_add]
  omega

theorem stackDec_eq (e : Bool) (sp : Word) : stackDec e sp = if e then stackAdd e sp 0xFF#8 else sp + 0xFFFF#16 := by
  cases e
  · simp [stackDec, BitVec.sub_eq_add_neg]
  · simp [stackDec, stackAdd, BitVec.sub_eq_add_neg]

theorem stackInc_eq (e : Bool) (sp : Word) : stackInc e sp = stackAdd e sp 1#8 := by
  cases e <;> simp [stackInc, stackAdd, zext16]

end Sys2Proof.Machine

namespace Sys2Proof.Safety

open Sys2Proof.Machine

variable {s t : State}

theorem spUp_toNat (e : Bool) (sp : Word) (d : Nat) :
    (spUp e sp d).toNat =
      if e then 256 * (sp.toNat / 256) + (sp.toNat + d) % 256 else (sp.toNat + d) % 65536 := by
  have := sp.isLt
  cases e <;> simp [spUp]
  omega

theorem spDown_toNat (e : Bool) (sp : Word) :
    (spDown e sp).toNat =
      if e then 256 * (sp.toNat / 256) + (sp.toNat + 255) % 256 else (sp.toNat + 65535) % 65536 := by
  have := sp.isLt
  cases e <;> simp [spDown]
  omega

theorem stackDec_eq_spDown (e : Bool) (sp : Word) : stackDec e sp = spDown e sp := by
  apply BitVec.eq_of_toNat_eq
  rw [stackDec_eq, spDown_toNat]
  cases e
  · simp [BitVec.toNat_add]
  · simp [stackAdd_toNat]

theorem stackAdd_eq_spUp (e : Bool) (sp : Word) (d : Byte) : stackAdd e sp d = spUp e sp d.toNat := by
  apply BitVec.eq_of_toNat_eq
  rw [stackAdd_toNat, spUp_toNat]

theorem stackInc_eq_spUp (e : Bool) (sp : Word) : stackInc e sp = spUp e sp 1 := by
  rw [stackInc_eq, stackAdd_eq_spUp]; rfl

theorem spUp_spUp (e : Bool) (sp : Word) (j k : Nat) : spUp e (spUp e sp j) k = spUp e sp (j + k) := by
  apply BitVec.eq_of_toNat_eq
  have := sp.isLt
  rw [spUp_toNat, spUp_toNat, spUp_toNat]
  cases e <;> simp <;> omega

/-- One up undoes one down. -/
@[simp] theorem spUp_spDown (e : Bool) (sp : Word) : spUp e (spDown e sp) 1 = sp := by
  apply BitVec.eq_of_toNat_eq
  have := sp.isLt
  rw [spUp_toNat, spDown_toNat]
  cases e <;> simp <;> omega

theorem spDown_ne (e : Bool) (sp : Word) : spDown e sp ≠ sp := by
  intro h
  have := congrArg BitVec.toNat h
  have := sp.isLt
  rw [spDown_toNat] at *
  cases e <;> simp at * <;> omega

theorem spDown_spDown_ne (e : Bool) (sp : Word) : spDown e (spDown e sp) ≠ sp := by
  intro h
  have := congrArg BitVec.toNat h
  have := sp.isLt
  rw [spDown_toNat, spDown_toNat] at *
  cases e <;> simp at * <;> omega

/-! ### The first device among some addresses -/

@[simp] theorem firstDevice_nil (s : State) : firstDevice s [] = none := rfl

@[simp] theorem firstDevice_cons (s : State) (a : Word) (rest : List Word) :
    firstDevice s (a :: rest) = if kindAt s a = .device then some a else firstDevice s rest := by
  simp only [firstDevice, List.find?_cons]; split <;> simp_all

/-! ### Bytes read and stored -/

theorem packP_eq_statusByte (brk : Bool) (p : Flags) : packP brk p = statusByte p brk := by
  obtain ⟨n, v, e, d, i, z, c⟩ := p
  revert n v e d i z c brk; decide

/-- Pulling a status byte gives back the flags it was made of (R29). -/
theorem unpackP_packP (brk : Bool) (p q : Flags) (h : q.e = p.e) : unpackP (packP brk p) q = p := by
  obtain ⟨n, v, e, d, i, z, c⟩ := p
  obtain ⟨n', v', e', d', i', z', c'⟩ := q
  subst h
  simp only [unpackP, Flags.mk.injEq]
  revert n v e' d i z c brk; decide

theorem wordAt_eq (k : Nat) (lo hi : Word) (s : State) : wordAt k lo hi s = mkWord (peek (k + 1) hi s) (peek k lo s) := by
  rw [mkWord_eq_ofNat, wordAt, Nat.mul_comm, Nat.add_comm]

theorem basePage_eq (off : Byte) (s : State) : basePage off s = BitVec.ofNat 16 (s.b.toNat * 256 + off.toNat) :=
  mkWord_eq_ofNat _ _

/-- One byte stored. -/
theorem stored_one (s : State) (a : Word) (v : Byte) : Stored s [(a, v)] (storedMem s a v) := by
  constructor
  · intro k hk
    have : a.toNat ≠ k := hk (a, v) (by simp)
    rw [storedMem_read, if_neg (fun h => this h.1.symm)]
  · intro c hc
    simp only [List.mem_singleton] at hc
    subst hc
    simp [storedMem_read]

/-- One more byte stored, at an address not among those named before. -/
theorem stored_snoc {cells : List (Word × Byte)} {m : Memory} (h : Stored s cells m) (a : Word) (v : Byte)
    (hne : ∀ c ∈ cells, c.1 ≠ a) : Stored s (cells ++ [(a, v)]) (storedMem (s.setMem m) a v) := by
  constructor
  · intro k hk
    have ha : a.toNat ≠ k := hk (a, v) (by simp)
    rw [storedMem_read, if_neg (fun h => ha h.1.symm)]
    exact h.1 k (fun c hc => hk c (by simp [hc]))
  · intro c hc
    simp only [List.mem_append, List.mem_singleton] at hc
    rw [storedMem_read]
    rcases hc with hc | rfl
    · have : c.1.toNat ≠ a.toNat := fun e => hne c hc (BitVec.eq_of_toNat_eq e)
      rw [if_neg (fun e => this e.1)]
      exact h.2 c hc
    · simp only [kindAt_setMem, true_and, State.setMem_mem]
      by_cases hr : kindAt s a = .ram
      · simp [hr]
      · rw [if_neg hr, if_neg hr]
        exact h.1 _ (fun d hd e => hne d hd (BitVec.eq_of_toNat_eq e))

theorem stored_two (s : State) {a b : Word} (v w : Byte) (h : a ≠ b) : Stored s [(a, v), (b, w)] (storedMem2 s a v b w) :=
  stored_snoc (stored_one s a v) b w (by simpa using h)

/-- The order in which two stored bytes are named plays no part. -/
theorem stored_swap {a b : Word} {v w : Byte} {m : Memory} (h : Stored s [(a, v), (b, w)] m) :
    Stored s [(b, w), (a, v)] m := by
  refine ⟨fun k hk => h.1 k (fun c hc => hk c ?_), fun c hc => h.2 c ?_⟩ <;>
    simp only [List.mem_cons, List.not_mem_nil, or_false] at hc ⊢ <;> exact hc.symm

/-- The three bytes of a trap entry (R266). -/
theorem stored_trapMem (s : State) (ret : Word) (brk : Bool) :
    Stored s [(s.sp, hiByte ret), (spDown s.p.e s.sp, loByte ret),
      (spDown s.p.e (spDown s.p.e s.sp), statusByte s.p brk)] (trapMem s ret brk) := by
  unfold trapMem
  simp only [stackDec_eq_spDown, packP_eq_statusByte]
  apply stored_snoc (stored_two s _ _ (Ne.symm (spDown_ne _ _)))
  simp only [List.mem_cons, List.not_mem_nil, or_false]
  rintro c (rfl | rfl)
  · exact Ne.symm (spDown_spDown_ne _ _)
  · exact Ne.symm (spDown_ne _ _)

end Sys2Proof.Safety
end

