-- ==== Sys2Proof/Laws/Shapes.lean ====
section
/-! SUPPORT. The decoder on each format, and what an instruction of each shape answers where its operand can be
accessed, in the vocabulary of Safety. -/

namespace Sys2Proof.Machine

open Sys2Proof.Safety

variable {s : State}

/-! ### The decoder on each format (R73) -/

theorem decode_f1 {op : Byte} {i : Instr} (h : formatOf op = .f1 i) (rest : List Byte) :
    decode (op :: rest) = .ok (i, rest) := by
  simp [decode, h]

theorem decode_f2 {op : Byte} {k : Byte → Instr} (h : formatOf op = .f2 k) (op1 : Byte) (rest : List Byte) :
    decode (op :: op1 :: rest) = .ok (k op1, rest) := by
  simp [decode, h]

/-- The operand of a three-byte instruction, low byte first (R48). -/
theorem decode_f3 {op : Byte} {k : Word → Instr} (h : formatOf op = .f3 k) (w : Word) (rest : List Byte) :
    decode (op :: loByte w :: hiByte w :: rest) = .ok (k w, rest) := by
  simp [decode, h]

theorem codes_f3 {op : Byte} {k : Word → Instr} (h : formatOf op = .f3 k) (w : Word) :
    Codes [op, loByte w, hiByte w] (k w) :=
  fun rest => decode_f3 h w rest

/-! ### Shapes with an operand -/

theorem readSource_of_operandAt {md : Mode} {ea : Word} {v : Byte} (h : OperandAt md s ea v) :
    readSource (.mem md) s = .ok v := by
  obtain ⟨h1, h2, h3⟩ := h
  rw [readSource_mem_eq_ok]; exact ⟨ea, h1, h2, h3.symm⟩

theorem advance_load {set : Byte → State → State} {o : Source} {v : Byte} (h : readSource o s = .ok v) (len : Word) :
    advance len (load set o s) =
      .next (((set v s).setP (setNZ v s.p)).setPc (((set v s).setP (setNZ v s.p)).pc + len)) := by
  simp [load, h]

theorem advance_store {v : Byte} {md : Mode} {ea : Word} (h1 : effectiveAddress md s = .ok ea) (h2 : Accessible s ea)
    (len : Word) :
    ∃ m, Stored s [(ea, v)] m ∧ advance len (store v md s) = .next { s with mem := m, pc := s.pc + len } := by
  refine ⟨storedMem s ea v, stored_one _ _ _, ?_⟩
  simp [store, h1, memWrite_of_accessible h2]; rfl

theorem advance_accumulate {f : Byte → Byte → Flags → Byte × Flags} {o : Source} {v : Byte}
    (h : readSource o s = .ok v) (len : Word) :
    advance len (accumulate f o s) =
      .next { s with a := (f s.a v s.p).1, p := (f s.a v s.p).2, pc := s.pc + len } := by
  simp [accumulate, h]; rfl

theorem advance_testOperand {f : Byte → Byte → Flags → Flags} {reg : Byte} {o : Source} {v : Byte}
    (h : readSource o s = .ok v) (len : Word) :
    advance len (testOperand f reg o s) = .next { s with p := f reg v s.p, pc := s.pc + len } := by
  simp [testOperand, h]; rfl

theorem advance_modify {f : Byte → Flags → Byte × Flags} {md : Mode} {ea : Word} {v : Byte} (h : OperandAt md s ea v)
    (len : Word) :
    ∃ m, Stored s [(ea, (f v s.p).1)] m ∧
      advance len (modify f (.mem md) s) = .next { s with mem := m, p := (f v s.p).2, pc := s.pc + len } := by
  obtain ⟨h1, h2, rfl⟩ := h
  refine ⟨storedMem s ea (f (peek 2 ea s) s.p).1, stored_one _ _ _, ?_⟩
  rw [(modify_mem_eq_ok (f := f)).2 ⟨ea, h1, h2, rfl⟩]; rfl

theorem advance_modifyWord {f : Word → Flags → Word × Flags} {lo hi : Word} (h1 : Accessible s lo)
    (h2 : Accessible s hi) (hne : lo ≠ hi) (len : Word) :
    let r := f (wordAt 2 lo hi s) s.p
    ∃ m, Stored s [(lo, loByte r.1), (hi, hiByte r.1)] m ∧
      advance len (modifyWord f lo hi s) = .next { s with mem := m, p := r.2, pc := s.pc + len } := by
  intro r
  refine ⟨match s.cfg.wordRmwOrder with
    | .loHi => storedMem2 s lo (loByte r.1) hi (hiByte r.1)
    | .hiLo => storedMem2 s hi (hiByte r.1) lo (loByte r.1), ?_, ?_⟩
  · cases s.cfg.wordRmwOrder
    · exact stored_two _ _ _ hne
    · exact stored_swap (stored_two _ _ _ (Ne.symm hne))
  · rw [(modifyWord_eq_ok (f := f)).2 ⟨h1, h2, _, writeWord_eq_ok.2 ⟨h1, h2, rfl⟩, rfl⟩]
    simp only [r, wordAt_eq]; rfl

/-! ### Traps -/

/-- Where the five bytes can be accessed, trap entry answers the state R266 describes. -/
theorem trapEntry_enters {vec : Word} (h : TrapAccessible s vec) (ret : Word) (brk : Bool) :
    ∃ t, EntersTrap s vec ret brk t ∧ trapEntry vec ret brk s = .ok t := by
  obtain ⟨h1, h2, h3, h4, h5⟩ := h
  refine ⟨_, ⟨trapMem s ret brk, stored_trapMem s ret brk, rfl⟩, ?_⟩
  rw [trapEntry_eq_ok]
  simp only [stackDec_eq_spDown]
  refine ⟨h1, h2, h3, h4, h5, ?_⟩
  simp only [trapPushed, stackDec_eq_spDown, wordAt_eq, State.setPc, State.setP, State.setSp, State.setMem]; rfl

end Sys2Proof.Machine
end

