-- ==== Sys2Proof/Tests/DecodeRows.lean ====
section
/-! SUPPORT. Every constructor's decoding, shown on an encoding written out from the opcode map (30_encoding.md
R101) and the formats (R73): opcode byte, then operand bytes in the order of their addresses. -/

namespace Sys2Proof.Tests

open Sys2Proof

/-- The bytes are exactly the encoding of the instruction, for the decoder and for the encoder. -/
def codes (bs : List Byte) (i : Instr) : Bool :=
  (match decode bs with
    | .ok (j, rest) => i == j && rest.isEmpty
    | .error _ => false) && encode i == bs

theorem test_opcode_row_0 :
    codes [0x00, 0x12] (.brk 0x12#8) = true ∧
    codes [0x01, 0x12] (.oraIndX 0x12#8) = true ∧
    codes [0x02] (.cle) = true ∧
    codes [0x03] (.see) = true ∧
    codes [0x04, 0x12] (.tsbBp 0x12#8) = true ∧
    codes [0x05, 0x12] (.oraBp 0x12#8) = true ∧
    codes [0x06, 0x12] (.aslBp 0x12#8) = true ∧
    codes [0x07, 0x12] (.rmb0 0x12#8) = true ∧
    codes [0x08] (.php) = true ∧
    codes [0x09, 0x12] (.oraImm 0x12#8) = true ∧
    codes [0x0A] (.aslA) = true ∧
    codes [0x0B] (.tsy) = true ∧
    codes [0x0C, 0x12, 0x34] (.tsbAbs 0x3412#16) = true ∧
    codes [0x0D, 0x12, 0x34] (.oraAbs 0x3412#16) = true ∧
    codes [0x0E, 0x12, 0x34] (.aslAbs 0x3412#16) = true ∧
    codes [0x0F, 0x12, 0x34] (.bbr0 0x12#8 0x34#8) = true := by
  decide

theorem test_opcode_row_1 :
    codes [0x10, 0x12] (.bplR8 0x12#8) = true ∧
    codes [0x11, 0x12] (.oraIndY 0x12#8) = true ∧
    codes [0x12, 0x12] (.oraIndZ 0x12#8) = true ∧
    codes [0x13, 0x12, 0x34] (.bplR16 0x3412#16) = true ∧
    codes [0x14, 0x12] (.trbBp 0x12#8) = true ∧
    codes [0x15, 0x12] (.oraBpX 0x12#8) = true ∧
    codes [0x16, 0x12] (.aslBpX 0x12#8) = true ∧
    codes [0x17, 0x12] (.rmb1 0x12#8) = true ∧
    codes [0x18] (.clc) = true ∧
    codes [0x19, 0x12, 0x34] (.oraAbsY 0x3412#16) = true ∧
    codes [0x1A] (.incA) = true ∧
    codes [0x1B] (.inz) = true ∧
    codes [0x1C, 0x12, 0x34] (.trbAbs 0x3412#16) = true ∧
    codes [0x1D, 0x12, 0x34] (.oraAbsX 0x3412#16) = true ∧
    codes [0x1E, 0x12, 0x34] (.aslAbsX 0x3412#16) = true ∧
    codes [0x1F, 0x12, 0x34] (.bbr1 0x12#8 0x34#8) = true := by
  decide

theorem test_opcode_row_2 :
    codes [0x20, 0x12, 0x34] (.jsrAbs 0x3412#16) = true ∧
    codes [0x21, 0x12] (.andIndX 0x12#8) = true ∧
    codes [0x22, 0x12, 0x34] (.jsrAbsInd 0x3412#16) = true ∧
    codes [0x23, 0x12, 0x34] (.jsrAbsXInd 0x3412#16) = true ∧
    codes [0x24, 0x12] (.bitBp 0x12#8) = true ∧
    codes [0x25, 0x12] (.andBp 0x12#8) = true ∧
    codes [0x26, 0x12] (.rolBp 0x12#8) = true ∧
    codes [0x27, 0x12] (.rmb2 0x12#8) = true ∧
    codes [0x28] (.plp) = true ∧
    codes [0x29, 0x12] (.andImm 0x12#8) = true ∧
    codes [0x2A] (.rolA) = true ∧
    codes [0x2B] (.tys) = true ∧
    codes [0x2C, 0x12, 0x34] (.bitAbs 0x3412#16) = true ∧
    codes [0x2D, 0x12, 0x34] (.andAbs 0x3412#16) = true ∧
    codes [0x2E, 0x12, 0x34] (.rolAbs 0x3412#16) = true ∧
    codes [0x2F, 0x12, 0x34] (.bbr2 0x12#8 0x34#8) = true := by
  decide

theorem test_opcode_row_3 :
    codes [0x30, 0x12] (.bmiR8 0x12#8) = true ∧
    codes [0x31, 0x12] (.andIndY 0x12#8) = true ∧
    codes [0x32, 0x12] (.andIndZ 0x12#8) = true ∧
    codes [0x33, 0x12, 0x34] (.bmiR16 0x3412#16) = true ∧
    codes [0x34, 0x12] (.bitBpX 0x12#8) = true ∧
    codes [0x35, 0x12] (.andBpX 0x12#8) = true ∧
    codes [0x36, 0x12] (.rolBpX 0x12#8) = true ∧
    codes [0x37, 0x12] (.rmb3 0x12#8) = true ∧
    codes [0x38] (.sec) = true ∧
    codes [0x39, 0x12, 0x34] (.andAbsY 0x3412#16) = true ∧
    codes [0x3A] (.decA) = true ∧
    codes [0x3B] (.dez) = true ∧
    codes [0x3C, 0x12, 0x34] (.bitAbsX 0x3412#16) = true ∧
    codes [0x3D, 0x12, 0x34] (.andAbsX 0x3412#16) = true ∧
    codes [0x3E, 0x12, 0x34] (.rolAbsX 0x3412#16) = true ∧
    codes [0x3F, 0x12, 0x34] (.bbr3 0x12#8 0x34#8) = true := by
  decide

theorem test_opcode_row_4 :
    codes [0x40] (.rti) = true ∧
    codes [0x41, 0x12] (.eorIndX 0x12#8) = true ∧
    codes [0x42] (.neg) = true ∧
    codes [0x43] (.asrA) = true ∧
    codes [0x44, 0x12] (.asrBp 0x12#8) = true ∧
    codes [0x45, 0x12] (.eorBp 0x12#8) = true ∧
    codes [0x46, 0x12] (.lsrBp 0x12#8) = true ∧
    codes [0x47, 0x12] (.rmb4 0x12#8) = true ∧
    codes [0x48] (.pha) = true ∧
    codes [0x49, 0x12] (.eorImm 0x12#8) = true ∧
    codes [0x4A] (.lsrA) = true ∧
    codes [0x4B] (.taz) = true ∧
    codes [0x4C, 0x12, 0x34] (.jmpAbs 0x3412#16) = true ∧
    codes [0x4D, 0x12, 0x34] (.eorAbs 0x3412#16) = true ∧
    codes [0x4E, 0x12, 0x34] (.lsrAbs 0x3412#16) = true ∧
    codes [0x4F, 0x12, 0x34] (.bbr4 0x12#8 0x34#8) = true := by
  decide

theorem test_opcode_row_5 :
    codes [0x50, 0x12] (.bvcR8 0x12#8) = true ∧
    codes [0x51, 0x12] (.eorIndY 0x12#8) = true ∧
    codes [0x52, 0x12] (.eorIndZ 0x12#8) = true ∧
    codes [0x53, 0x12, 0x34] (.bvcR16 0x3412#16) = true ∧
    codes [0x54, 0x12] (.asrBpX 0x12#8) = true ∧
    codes [0x55, 0x12] (.eorBpX 0x12#8) = true ∧
    codes [0x56, 0x12] (.lsrBpX 0x12#8) = true ∧
    codes [0x57, 0x12] (.rmb5 0x12#8) = true ∧
    codes [0x58] (.cli) = true ∧
    codes [0x59, 0x12, 0x34] (.eorAbsY 0x3412#16) = true ∧
    codes [0x5A] (.phy) = true ∧
    codes [0x5B] (.tab) = true ∧
    codes [0x5C, 0x12, 0x34, 0x56] (.aug 0x12#8 0x34#8 0x56#8) = true ∧
    codes [0x5D, 0x12, 0x34] (.eorAbsX 0x3412#16) = true ∧
    codes [0x5E, 0x12, 0x34] (.lsrAbsX 0x3412#16) = true ∧
    codes [0x5F, 0x12, 0x34] (.bbr5 0x12#8 0x34#8) = true := by
  decide

theorem test_opcode_row_6 :
    codes [0x60] (.rts) = true ∧
    codes [0x61, 0x12] (.adcIndX 0x12#8) = true ∧
    codes [0x62, 0x12] (.rtn 0x12#8) = true ∧
    codes [0x63, 0x12, 0x34] (.bsr 0x3412#16) = true ∧
    codes [0x64, 0x12] (.stzBp 0x12#8) = true ∧
    codes [0x65, 0x12] (.adcBp 0x12#8) = true ∧
    codes [0x66, 0x12] (.rorBp 0x12#8) = true ∧
    codes [0x67, 0x12] (.rmb6 0x12#8) = true ∧
    codes [0x68] (.pla) = true ∧
    codes [0x69, 0x12] (.adcImm 0x12#8) = true ∧
    codes [0x6A] (.rorA) = true ∧
    codes [0x6B] (.tza) = true ∧
    codes [0x6C, 0x12, 0x34] (.jmpAbsInd 0x3412#16) = true ∧
    codes [0x6D, 0x12, 0x34] (.adcAbs 0x3412#16) = true ∧
    codes [0x6E, 0x12, 0x34] (.rorAbs 0x3412#16) = true ∧
    codes [0x6F, 0x12, 0x34] (.bbr6 0x12#8 0x34#8) = true := by
  decide

theorem test_opcode_row_7 :
    codes [0x70, 0x12] (.bvsR8 0x12#8) = true ∧
    codes [0x71, 0x12] (.adcIndY 0x12#8) = true ∧
    codes [0x72, 0x12] (.adcIndZ 0x12#8) = true ∧
    codes [0x73, 0x12, 0x34] (.bvsR16 0x3412#16) = true ∧
    codes [0x74, 0x12] (.stzBpX 0x12#8) = true ∧
    codes [0x75, 0x12] (.adcBpX 0x12#8) = true ∧
    codes [0x76, 0x12] (.rorBpX 0x12#8) = true ∧
    codes [0x77, 0x12] (.rmb7 0x12#8) = true ∧
    codes [0x78] (.sei) = true ∧
    codes [0x79, 0x12, 0x34] (.adcAbsY 0x3412#16) = true ∧
    codes [0x7A] (.ply) = true ∧
    codes [0x7B] (.tba) = true ∧
    codes [0x7C, 0x12, 0x34] (.jmpAbsXInd 0x3412#16) = true ∧
    codes [0x7D, 0x12, 0x34] (.adcAbsX 0x3412#16) = true ∧
    codes [0x7E, 0x12, 0x34] (.rorAbsX 0x3412#16) = true ∧
    codes [0x7F, 0x12, 0x34] (.bbr7 0x12#8 0x34#8) = true := by
  decide

theorem test_opcode_row_8 :
    codes [0x80, 0x12] (.braR8 0x12#8) = true ∧
    codes [0x81, 0x12] (.staIndX 0x12#8) = true ∧
    codes [0x82, 0x12] (.staSpIndY 0x12#8) = true ∧
    codes [0x83, 0x12, 0x34] (.braR16 0x3412#16) = true ∧
    codes [0x84, 0x12] (.styBp 0x12#8) = true ∧
    codes [0x85, 0x12] (.staBp 0x12#8) = true ∧
    codes [0x86, 0x12] (.stxBp 0x12#8) = true ∧
    codes [0x87, 0x12] (.smb0 0x12#8) = true ∧
    codes [0x88] (.dey) = true ∧
    codes [0x89, 0x12] (.bitImm 0x12#8) = true ∧
    codes [0x8A] (.txa) = true ∧
    codes [0x8B, 0x12, 0x34] (.styAbsX 0x3412#16) = true ∧
    codes [0x8C, 0x12, 0x34] (.styAbs 0x3412#16) = true ∧
    codes [0x8D, 0x12, 0x34] (.staAbs 0x3412#16) = true ∧
    codes [0x8E, 0x12, 0x34] (.stxAbs 0x3412#16) = true ∧
    codes [0x8F, 0x12, 0x34] (.bbs0 0x12#8 0x34#8) = true := by
  decide

theorem test_opcode_row_9 :
    codes [0x90, 0x12] (.bccR8 0x12#8) = true ∧
    codes [0x91, 0x12] (.staIndY 0x12#8) = true ∧
    codes [0x92, 0x12] (.staIndZ 0x12#8) = true ∧
    codes [0x93, 0x12, 0x34] (.bccR16 0x3412#16) = true ∧
    codes [0x94, 0x12] (.styBpX 0x12#8) = true ∧
    codes [0x95, 0x12] (.staBpX 0x12#8) = true ∧
    codes [0x96, 0x12] (.stxBpY 0x12#8) = true ∧
    codes [0x97, 0x12] (.smb1 0x12#8) = true ∧
    codes [0x98] (.tya) = true ∧
    codes [0x99, 0x12, 0x34] (.staAbsY 0x3412#16) = true ∧
    codes [0x9A] (.txs) = true ∧
    codes [0x9B, 0x12, 0x34] (.stxAbsY 0x3412#16) = true ∧
    codes [0x9C, 0x12, 0x34] (.stzAbs 0x3412#16) = true ∧
    codes [0x9D, 0x12, 0x34] (.staAbsX 0x3412#16) = true ∧
    codes [0x9E, 0x12, 0x34] (.stzAbsX 0x3412#16) = true ∧
    codes [0x9F, 0x12, 0x34] (.bbs1 0x12#8 0x34#8) = true := by
  decide

theorem test_opcode_row_A :
    codes [0xA0, 0x12] (.ldyImm 0x12#8) = true ∧
    codes [0xA1, 0x12] (.ldaIndX 0x12#8) = true ∧
    codes [0xA2, 0x12] (.ldxImm 0x12#8) = true ∧
    codes [0xA3, 0x12] (.ldzImm 0x12#8) = true ∧
    codes [0xA4, 0x12] (.ldyBp 0x12#8) = true ∧
    codes [0xA5, 0x12] (.ldaBp 0x12#8) = true ∧
    codes [0xA6, 0x12] (.ldxBp 0x12#8) = true ∧
    codes [0xA7, 0x12] (.smb2 0x12#8) = true ∧
    codes [0xA8] (.tay) = true ∧
    codes [0xA9, 0x12] (.ldaImm 0x12#8) = true ∧
    codes [0xAA] (.tax) = true ∧
    codes [0xAB, 0x12, 0x34] (.ldzAbs 0x3412#16) = true ∧
    codes [0xAC, 0x12, 0x34] (.ldyAbs 0x3412#16) = true ∧
    codes [0xAD, 0x12, 0x34] (.ldaAbs 0x3412#16) = true ∧
    codes [0xAE, 0x12, 0x34] (.ldxAbs 0x3412#16) = true ∧
    codes [0xAF, 0x12, 0x34] (.bbs2 0x12#8 0x34#8) = true := by
  decide

theorem test_opcode_row_B :
    codes [0xB0, 0x12] (.bcsR8 0x12#8) = true ∧
    codes [0xB1, 0x12] (.ldaIndY 0x12#8) = true ∧
    codes [0xB2, 0x12] (.ldaIndZ 0x12#8) = true ∧
    codes [0xB3, 0x12, 0x34] (.bcsR16 0x3412#16) = true ∧
    codes [0xB4, 0x12] (.ldyBpX 0x12#8) = true ∧
    codes [0xB5, 0x12] (.ldaBpX 0x12#8) = true ∧
    codes [0xB6, 0x12] (.ldxBpY 0x12#8) = true ∧
    codes [0xB7, 0x12] (.smb3 0x12#8) = true ∧
    codes [0xB8] (.clv) = true ∧
    codes [0xB9, 0x12, 0x34] (.ldaAbsY 0x3412#16) = true ∧
    codes [0xBA] (.tsx) = true ∧
    codes [0xBB, 0x12, 0x34] (.ldzAbsX 0x3412#16) = true ∧
    codes [0xBC, 0x12, 0x34] (.ldyAbsX 0x3412#16) = true ∧
    codes [0xBD, 0x12, 0x34] (.ldaAbsX 0x3412#16) = true ∧
    codes [0xBE, 0x12, 0x34] (.ldxAbsY 0x3412#16) = true ∧
    codes [0xBF, 0x12, 0x34] (.bbs3 0x12#8 0x34#8) = true := by
  decide

theorem test_opcode_row_C :
    codes [0xC0, 0x12] (.cpyImm 0x12#8) = true ∧
    codes [0xC1, 0x12] (.cmpIndX 0x12#8) = true ∧
    codes [0xC2, 0x12] (.cpzImm 0x12#8) = true ∧
    codes [0xC3, 0x12] (.dew 0x12#8) = true ∧
    codes [0xC4, 0x12] (.cpyBp 0x12#8) = true ∧
    codes [0xC5, 0x12] (.cmpBp 0x12#8) = true ∧
    codes [0xC6, 0x12] (.decBp 0x12#8) = true ∧
    codes [0xC7, 0x12] (.smb4 0x12#8) = true ∧
    codes [0xC8] (.iny) = true ∧
    codes [0xC9, 0x12] (.cmpImm 0x12#8) = true ∧
    codes [0xCA] (.dex) = true ∧
    codes [0xCB, 0x12, 0x34] (.asw 0x3412#16) = true ∧
    codes [0xCC, 0x12, 0x34] (.cpyAbs 0x3412#16) = true ∧
    codes [0xCD, 0x12, 0x34] (.cmpAbs 0x3412#16) = true ∧
    codes [0xCE, 0x12, 0x34] (.decAbs 0x3412#16) = true ∧
    codes [0xCF, 0x12, 0x34] (.bbs4 0x12#8 0x34#8) = true := by
  decide

theorem test_opcode_row_D :
    codes [0xD0, 0x12] (.bneR8 0x12#8) = true ∧
    codes [0xD1, 0x12] (.cmpIndY 0x12#8) = true ∧
    codes [0xD2, 0x12] (.cmpIndZ 0x12#8) = true ∧
    codes [0xD3, 0x12, 0x34] (.bneR16 0x3412#16) = true ∧
    codes [0xD4, 0x12] (.cpzBp 0x12#8) = true ∧
    codes [0xD5, 0x12] (.cmpBpX 0x12#8) = true ∧
    codes [0xD6, 0x12] (.decBpX 0x12#8) = true ∧
    codes [0xD7, 0x12] (.smb5 0x12#8) = true ∧
    codes [0xD8] (.cld) = true ∧
    codes [0xD9, 0x12, 0x34] (.cmpAbsY 0x3412#16) = true ∧
    codes [0xDA] (.phx) = true ∧
    codes [0xDB] (.phz) = true ∧
    codes [0xDC, 0x12, 0x34] (.cpzAbs 0x3412#16) = true ∧
    codes [0xDD, 0x12, 0x34] (.cmpAbsX 0x3412#16) = true ∧
    codes [0xDE, 0x12, 0x34] (.decAbsX 0x3412#16) = true ∧
    codes [0xDF, 0x12, 0x34] (.bbs5 0x12#8 0x34#8) = true := by
  decide

theorem test_opcode_row_E :
    codes [0xE0, 0x12] (.cpxImm 0x12#8) = true ∧
    codes [0xE1, 0x12] (.sbcIndX 0x12#8) = true ∧
    codes [0xE2, 0x12] (.ldaSpIndY 0x12#8) = true ∧
    codes [0xE3, 0x12] (.inw 0x12#8) = true ∧
    codes [0xE4, 0x12] (.cpxBp 0x12#8) = true ∧
    codes [0xE5, 0x12] (.sbcBp 0x12#8) = true ∧
    codes [0xE6, 0x12] (.incBp 0x12#8) = true ∧
    codes [0xE7, 0x12] (.smb6 0x12#8) = true ∧
    codes [0xE8] (.inx) = true ∧
    codes [0xE9, 0x12] (.sbcImm 0x12#8) = true ∧
    codes [0xEA] (.nop) = true ∧
    codes [0xEB, 0x12, 0x34] (.row 0x3412#16) = true ∧
    codes [0xEC, 0x12, 0x34] (.cpxAbs 0x3412#16) = true ∧
    codes [0xED, 0x12, 0x34] (.sbcAbs 0x3412#16) = true ∧
    codes [0xEE, 0x12, 0x34] (.incAbs 0x3412#16) = true ∧
    codes [0xEF, 0x12, 0x34] (.bbs6 0x12#8 0x34#8) = true := by
  decide

theorem test_opcode_row_F :
    codes [0xF0, 0x12] (.beqR8 0x12#8) = true ∧
    codes [0xF1, 0x12] (.sbcIndY 0x12#8) = true ∧
    codes [0xF2, 0x12] (.sbcIndZ 0x12#8) = true ∧
    codes [0xF3, 0x12, 0x34] (.beqR16 0x3412#16) = true ∧
    codes [0xF4, 0x12, 0x34] (.phwImmWord 0x3412#16) = true ∧
    codes [0xF5, 0x12] (.sbcBpX 0x12#8) = true ∧
    codes [0xF6, 0x12] (.incBpX 0x12#8) = true ∧
    codes [0xF7, 0x12] (.smb7 0x12#8) = true ∧
    codes [0xF8] (.sed) = true ∧
    codes [0xF9, 0x12, 0x34] (.sbcAbsY 0x3412#16) = true ∧
    codes [0xFA] (.plx) = true ∧
    codes [0xFB] (.plz) = true ∧
    codes [0xFC, 0x12, 0x34] (.phwAbs 0x3412#16) = true ∧
    codes [0xFD, 0x12, 0x34] (.sbcAbsX 0x3412#16) = true ∧
    codes [0xFE, 0x12, 0x34] (.incAbsX 0x3412#16) = true ∧
    codes [0xFF, 0x12, 0x34] (.bbs7 0x12#8 0x34#8) = true := by
  decide

end Sys2Proof.Tests
end

