-- ==== Sys2Proof/Tests/Slice0.lean ====
section
/-! SUPPORT. The model's own tests: the well-formedness smoke test, single steps whose expected results are rows of
spec/95_test_vectors.md (worked out there by hand from the rules), and for every statement with hypotheses a
concrete state and operands that meet them together. -/

namespace Sys2Proof.Tests

open Sys2Proof Sys2Proof.Machine Sys2Proof.Safety

/-! ### Well-formedness: each ill-formed byte sequence is refused -/

theorem test_empty_bytes_are_ill_formed : wellFormedBytes [] = false ∧ decode [] = .error .noOpcode := ⟨rfl, rfl⟩

theorem test_too_few_bytes_are_ill_formed :
    wellFormedBytes [0xAD#8, 0x34#8] = false ∧ decode [0xAD#8, 0x34#8] = .error (.truncated 0xAD#8) := ⟨rfl, rfl⟩

theorem test_four_byte_opcode_needs_four_bytes :
    wellFormedBytes [0x5C#8, 0x01#8, 0x02#8] = false ∧ decode [0x5C#8, 0x01#8, 0x02#8] = .error (.truncated 0x5C#8) :=
  ⟨rfl, rfl⟩

theorem test_too_many_bytes_are_ill_formed : wellFormedBytes [0xEA#8, 0xEA#8] = false := rfl

theorem test_table_length_is_well_formed : wellFormedBytes [0x5C#8, 0x01#8, 0x02#8, 0x03#8] = true := rfl

/-! ### Reset -/

theorem test_reset_memory_is_canonical : State.reset.mem.wf = true := by decide

theorem test_reset_pc_is_the_vector_word : read16 0 State.reset.cfg.vecReset State.reset = .ok State.reset.pc := rfl

/-! ### The memory list -/

theorem test_unsorted_memory_is_not_canonical : Memory.wf [(5, 0x01#8), (4, 0x01#8)] = false := by decide

theorem test_unlisted_value_is_not_listed : Memory.wf [(5, Memory.unlisted)] = false := by decide

theorem test_write_of_unlisted_value_removes_entry :
    Memory.write (Memory.write (Memory.write [] 7 0x12#8) 3 0x34#8) 7 Memory.unlisted = [(3, 0x34#8)] := by decide

/-! ### The start state of spec/95_test_vectors.md -/

/-- Its flags: E = 1, the others 0. -/
def vectorFlags : Flags := ⟨false, false, true, false, false, false, false⟩

/-- The start state with the instruction's bytes at PC and bytes of data in memory. -/
def vectorStart (pc : Word) (bytes : List Byte) (data : List (Word × Byte)) : State :=
  { State.reset with
    sp := 0x01FF#16
    pc := pc
    p := vectorFlags
    mem := placeBytes bytes pc (data.foldl (fun m c => m.write c.1.toNat c.2) []) }

/-- Whether one step goes on to a state of which `check` holds. -/
def after (s : State) (check : State → Bool) : Bool :=
  match step s with
  | .next t => check t
  | _ => false

/-! ### Shift and rotate: the rows TS-n of spec/95_test_vectors.md -/

theorem test_ts_1_asl : after { vectorStart 0x0200#16 [0x0A#8] [] with a := 0x81#8 }
    (fun t => t.a == 0x02#8 && t.pc == 0x0201#16 && !t.p.n && !t.p.z && t.p.c) = true := by decide

theorem test_ts_2_lsr : after (vectorStart 0x0200#16 [0x46#8, 0x10#8] [(0x0010#16, 0x01#8)])
    (fun t => t.pc == 0x0202#16 && !t.p.n && t.p.z && t.p.c && t.mem.read 0x0010 == 0x00#8) = true := by decide

theorem test_ts_3_rol : after { vectorStart 0x0200#16 [0x2A#8] [] with a := 0x80#8, p := { vectorFlags with c := true } }
    (fun t => t.a == 0x01#8 && t.pc == 0x0201#16 && !t.p.n && !t.p.z && t.p.c) = true := by decide

theorem test_ts_4_ror : after { vectorStart 0x0200#16 [0x6E#8, 0x34#8, 0x12#8] [(0x1234#16, 0x01#8)] with p := { vectorFlags with c := true } }
    (fun t => t.pc == 0x0203#16 && t.p.n && !t.p.z && t.p.c && t.mem.read 0x1234 == 0x80#8) = true := by decide

theorem test_ts_5_asr : after { vectorStart 0x0200#16 [0x43#8] [] with a := 0x81#8, p := { vectorFlags with v := true } }
    (fun t => t.a == 0xC0#8 && t.pc == 0x0201#16 && t.p.n && t.p.v && !t.p.z && t.p.c) = true := by decide

theorem test_ts_9_asr : after { vectorStart 0x0200#16 [0x54#8, 0xF0#8] [(0x1210#16, 0x03#8)] with b := 0x12#8, x := 0x20#8 }
    (fun t => t.pc == 0x0202#16 && !t.p.n && !t.p.z && t.p.c && t.mem.read 0x1210 == 0x01#8) = true := by decide

theorem test_ts_12_asw : after { vectorStart 0x0200#16 [0xCB#8, 0x34#8, 0x12#8] [(0x1234#16, 0x80#8), (0x1235#16, 0x40#8)] with p := { vectorFlags with c := true } }
    (fun t => t.pc == 0x0203#16 && t.p.n && !t.p.z && !t.p.c && t.mem.read 0x1234 == 0x00#8 && t.mem.read 0x1235 == 0x81#8) = true := by decide

theorem test_ts_13_asw : after (vectorStart 0x0200#16 [0xCB#8, 0xFF#8, 0xFF#8] [(0x0000#16, 0x00#8), (0xFFFF#16, 0x80#8)])
    (fun t => t.pc == 0x0203#16 && !t.p.n && !t.p.z && !t.p.c && t.mem.read 0xFFFF == 0x00#8 && t.mem.read 0x0000 == 0x01#8) = true := by decide

theorem test_ts_14_row : after { vectorStart 0x0200#16 [0xEB#8, 0x00#8, 0x20#8] [(0x2000#16, 0x00#8), (0x2001#16, 0x80#8)] with p := { vectorFlags with c := true } }
    (fun t => t.pc == 0x0203#16 && !t.p.n && !t.p.z && t.p.c && t.mem.read 0x2000 == 0x01#8 && t.mem.read 0x2001 == 0x00#8) = true := by decide

/-! ### Control transfer: the rows TC-n of spec/95_test_vectors.md -/

theorem test_tc_2_jmp : after (vectorStart 0x0200#16 [0x6C#8, 0xFF#8, 0x12#8] [(0x1200#16, 0x99#8), (0x12FF#16, 0x78#8), (0x1300#16, 0x56#8)])
    (fun t => t.pc == 0x5678#16) = true := by decide

theorem test_tc_3_jmp : after { vectorStart 0x0200#16 [0x7C#8, 0x00#8, 0x10#8] [(0x1004#16, 0x00#8), (0x1005#16, 0x30#8)] with x := 0x04#8 }
    (fun t => t.pc == 0x3000#16) = true := by decide

theorem test_tc_4_jsr : after (vectorStart 0x0300#16 [0x20#8, 0x34#8, 0x12#8] [])
    (fun t => t.sp == 0x01FD#16 && t.pc == 0x1234#16 && t.mem.read 0x01FF == 0x03#8 && t.mem.read 0x01FE == 0x02#8) = true := by decide

theorem test_tc_6_jsr : after { vectorStart 0x0300#16 [0x23#8, 0x00#8, 0x10#8] [(0x1002#16, 0x00#8), (0x1003#16, 0x50#8)] with x := 0x02#8 }
    (fun t => t.sp == 0x01FD#16 && t.pc == 0x5000#16 && t.mem.read 0x01FF == 0x03#8 && t.mem.read 0x01FE == 0x02#8) = true := by decide

theorem test_tc_8_bsr : after { vectorStart 0x4000#16 [0x63#8, 0xFE#8, 0xFF#8] [] with sp := 0x2000#16, p := { vectorFlags with e := false } }
    (fun t => t.sp == 0x1FFE#16 && t.pc == 0x4000#16 && t.mem.read 0x2000 == 0x40#8 && t.mem.read 0x1FFF == 0x02#8) = true := by decide

theorem test_tc_9_bsr : after { vectorStart 0xFFFE#16 [0x63#8, 0x05#8, 0x00#8] [] with sp := 0x0100#16, p := { vectorFlags with e := true } }
    (fun t => t.sp == 0x01FE#16 && t.pc == 0x0005#16 && t.mem.read 0x0100 == 0x00#8 && t.mem.read 0x01FF == 0x00#8) = true := by decide

theorem test_tc_11_rts : after { vectorStart 0x0310#16 [0x60#8] [(0x0100#16, 0xFF#8), (0x01FF#16, 0xFF#8)] with sp := 0x01FE#16, p := { vectorFlags with e := true } }
    (fun t => t.sp == 0x0100#16 && t.pc == 0x0000#16) = true := by decide

theorem test_tc_12_rts : after { vectorStart 0x0310#16 [0x60#8] [(0x0100#16, 0x99#8), (0x01FF#16, 0x10#8), (0x0200#16, 0x20#8)] with sp := 0x01FE#16, p := { vectorFlags with e := false } }
    (fun t => t.sp == 0x0200#16 && t.pc == 0x2011#16) = true := by decide

theorem test_tc_14_rtn : after { vectorStart 0x0310#16 [0x62#8, 0x02#8] [(0x01FC#16, 0x11#8), (0x01FD#16, 0x22#8), (0x01FE#16, 0x04#8), (0x01FF#16, 0x03#8)] with sp := 0x01FB#16, cfg := { Params.default with rtnOrder := some .adjustThenPull } }
    (fun t => t.sp == 0x01FF#16 && t.pc == 0x0305#16) = true := by decide

theorem test_tc_15_rtn : after { vectorStart 0x0310#16 [0x62#8, 0x02#8] [(0x01FC#16, 0x11#8), (0x01FD#16, 0x22#8), (0x01FE#16, 0x04#8), (0x01FF#16, 0x03#8)] with sp := 0x01FB#16, cfg := { Params.default with rtnOrder := some .pullThenAdjust } }
    (fun t => t.sp == 0x01FF#16 && t.pc == 0x2212#16) = true := by decide

theorem test_tc_16_rti : after { vectorStart 0x8000#16 [0x40#8] [(0x01FD#16, 0xF3#8), (0x01FE#16, 0x02#8), (0x01FF#16, 0x03#8)] with sp := 0x01FC#16, p := { vectorFlags with e := false, i := true } }
    (fun t => t.sp == 0x01FF#16 && t.pc == 0x0302#16 && t.p.n && t.p.v && !t.p.e && !t.p.d && !t.p.i && t.p.z && t.p.c) = true := by decide

theorem test_tc_17_nop : after (vectorStart 0x0200#16 [0xEA#8] [])
    (fun t => t.pc == 0x0201#16) = true := by decide

theorem test_tc_19_aug : after (vectorStart 0xFFFE#16 [0x5C#8, 0x00#8, 0x00#8, 0x00#8] [])
    (fun t => t.pc == 0x0002#16) = true := by decide

theorem test_tc_20_brk : after { vectorStart 0x0300#16 [0x00#8, 0x99#8] [(0xFFFE#16, 0x00#8), (0xFFFF#16, 0x90#8)] with p := { vectorFlags with d := true, c := true } }
    (fun t => t.sp == 0x01FC#16 && t.pc == 0x9000#16 && !t.p.d && t.p.i && t.mem.read 0x01FF == 0x03#8 && t.mem.read 0x01FE == 0x02#8 && t.mem.read 0x01FD == 0x39#8) = true := by decide

/-! ### Flags: the rows TF-n of spec/95_test_vectors.md -/

theorem test_tf_5_cli : after { vectorStart 0x0200#16 [0x58#8] [] with p := { vectorFlags with i := true } }
    (fun t => t.pc == 0x0201#16 && !t.p.i) = true := by decide

theorem test_tf_8_cle : after { vectorStart 0x0200#16 [0x02#8] [] with sp := 0x01FF#16, p := { vectorFlags with e := true } }
    (fun t => t.sp == 0x01FF#16 && t.pc == 0x0201#16 && !t.p.e) = true := by decide

theorem test_tf_9_see : after { vectorStart 0x0200#16 [0x03#8] [] with sp := 0x20FD#16, p := { vectorFlags with e := false } }
    (fun t => t.sp == 0x20FD#16 && t.pc == 0x0201#16 && t.p.e) = true := by decide

/-! ### Arithmetic and compare: the rows TA-n of spec/95_test_vectors.md -/

theorem test_ta_2_adc : after { vectorStart 0x0200#16 [0x69#8, 0x01#8] [] with a := 0x7F#8 }
    (fun t => t.a == 0x80#8 && t.pc == 0x0202#16 && t.p.n && t.p.v && !t.p.z && !t.p.c) = true := by decide

theorem test_ta_6_adc : after { vectorStart 0x0200#16 [0x72#8, 0x20#8] [(0x0020#16, 0x00#8), (0x0021#16, 0x40#8), (0x4003#16, 0x02#8)] with a := 0x01#8, z := 0x03#8, b := 0x00#8 }
    (fun t => t.a == 0x03#8 && t.pc == 0x0202#16 && !t.p.n && !t.p.v && !t.p.z && !t.p.c) = true := by decide

theorem test_ta_9_sbc : after { vectorStart 0x0200#16 [0xE9#8, 0x01#8] [] with a := 0x80#8, p := { vectorFlags with c := true } }
    (fun t => t.a == 0x7F#8 && t.pc == 0x0202#16 && !t.p.n && t.p.v && !t.p.z && t.p.c) = true := by decide

theorem test_ta_11_sbc : after { vectorStart 0x0200#16 [0xF2#8, 0x20#8] [(0x0000#16, 0x10#8), (0x1220#16, 0x01#8), (0x1221#16, 0xFF#8)] with a := 0x10#8, z := 0xFF#8, b := 0x12#8, p := { vectorFlags with c := true } }
    (fun t => t.a == 0x00#8 && t.pc == 0x0202#16 && !t.p.n && !t.p.v && t.p.z && t.p.c) = true := by decide

theorem test_ta_13_adc : after { vectorStart 0x0200#16 [0x69#8, 0x01#8] [] with a := 0x99#8, p := { vectorFlags with d := true } }
    (fun t => t.a == 0x00#8 && t.pc == 0x0202#16 && t.p.c) = true := by decide

theorem test_ta_14_sbc : after { vectorStart 0x0200#16 [0xE9#8, 0x01#8] [] with a := 0x10#8, p := { vectorFlags with d := true, c := true } }
    (fun t => t.a == 0x09#8 && t.pc == 0x0202#16 && t.p.c) = true := by decide

theorem test_ta_16_cmp : after { vectorStart 0x0200#16 [0xC9#8, 0x41#8] [] with a := 0x40#8 }
    (fun t => t.pc == 0x0202#16 && t.p.n && !t.p.z && !t.p.c) = true := by decide

theorem test_ta_17_cmp : after { vectorStart 0x0200#16 [0xD2#8, 0x20#8] [(0x0020#16, 0xFF#8), (0x0021#16, 0x2F#8), (0x3000#16, 0x00#8)] with a := 0x80#8, z := 0x01#8 }
    (fun t => t.pc == 0x0202#16 && t.p.n && !t.p.z && t.p.c) = true := by decide

theorem test_ta_18_cpx : after { vectorStart 0x0200#16 [0xE0#8, 0x10#8] [] with x := 0x10#8 }
    (fun t => t.pc == 0x0202#16 && !t.p.n && t.p.z && t.p.c) = true := by decide

theorem test_ta_19_cpy : after { vectorStart 0x0200#16 [0xC0#8, 0x01#8] [] with y := 0x00#8 }
    (fun t => t.pc == 0x0202#16 && t.p.n && !t.p.z && !t.p.c) = true := by decide

theorem test_ta_20_cpz : after { vectorStart 0x0200#16 [0xC2#8, 0x03#8] [] with z := 0x03#8, p := { vectorFlags with v := true } }
    (fun t => t.pc == 0x0202#16 && !t.p.n && t.p.v && t.p.z && t.p.c) = true := by decide

theorem test_ta_21_cpz : after { vectorStart 0x0200#16 [0xD4#8, 0x10#8] [(0x1210#16, 0x01#8)] with z := 0x00#8, b := 0x12#8 }
    (fun t => t.pc == 0x0202#16 && t.p.n && !t.p.z && !t.p.c) = true := by decide

theorem test_ta_24_neg : after { vectorStart 0x0200#16 [0x42#8] [] with a := 0x05#8, p := { vectorFlags with c := true, v := true } }
    (fun t => t.a == 0xFB#8 && t.pc == 0x0201#16 && t.p.n && t.p.v && !t.p.z && t.p.c) = true := by decide

theorem test_ta_25_neg : after { vectorStart 0x0200#16 [0x42#8] [] with a := 0x00#8, p := { vectorFlags with c := false } }
    (fun t => t.a == 0x00#8 && t.pc == 0x0201#16 && !t.p.n && !t.p.v && t.p.z && !t.p.c) = true := by decide

/-! ### Increment and decrement: the rows TI-n of spec/95_test_vectors.md -/

theorem test_ti_1_inc : after (vectorStart 0x0200#16 [0xE6#8, 0x10#8] [(0x0010#16, 0xFF#8)])
    (fun t => t.pc == 0x0202#16 && !t.p.n && t.p.z && t.mem.read 0x0010 == 0x00#8) = true := by decide

theorem test_ti_4_dec : after { vectorStart 0x0200#16 [0xDE#8, 0x34#8, 0x12#8] [(0x1235#16, 0x01#8)] with x := 0x01#8 }
    (fun t => t.pc == 0x0203#16 && !t.p.n && t.p.z && t.mem.read 0x1235 == 0x00#8) = true := by decide

theorem test_ti_7_inz : after { vectorStart 0x0200#16 [0x1B#8] [] with z := 0xFF#8 }
    (fun t => t.z == 0x00#8 && t.pc == 0x0201#16 && !t.p.n && t.p.z) = true := by decide

theorem test_ti_10_dey : after { vectorStart 0x0200#16 [0x88#8] [] with y := 0x00#8 }
    (fun t => t.y == 0xFF#8 && t.pc == 0x0201#16 && t.p.n && !t.p.z) = true := by decide

theorem test_ti_13_inw : after { vectorStart 0x0200#16 [0xE3#8, 0x10#8] [(0x1210#16, 0xFF#8), (0x1211#16, 0x00#8)] with b := 0x12#8 }
    (fun t => t.pc == 0x0202#16 && !t.p.n && !t.p.z && t.mem.read 0x1210 == 0x00#8 && t.mem.read 0x1211 == 0x01#8) = true := by decide

theorem test_ti_16_inw : after { vectorStart 0x0200#16 [0xE3#8, 0xFF#8] [(0x1200#16, 0x00#8), (0x12FF#16, 0xFF#8), (0x1300#16, 0x55#8)] with b := 0x12#8 }
    (fun t => t.pc == 0x0202#16 && !t.p.n && !t.p.z && t.mem.read 0x12FF == 0x00#8 && t.mem.read 0x1200 == 0x01#8) = true := by decide

theorem test_ti_18_dew : after { vectorStart 0x0200#16 [0xC3#8, 0x10#8] [(0x0010#16, 0x00#8), (0x0011#16, 0x00#8)] with p := { vectorFlags with c := true } }
    (fun t => t.pc == 0x0202#16 && t.p.n && !t.p.z && t.p.c && t.mem.read 0x0010 == 0xFF#8 && t.mem.read 0x0011 == 0xFF#8) = true := by decide

/-! ### Load and store: the rows TL-n of spec/95_test_vectors.md -/

theorem test_tl_2_lda : after { vectorStart 0x0200#16 [0xA5#8, 0x10#8] [(0x0010#16, 0x01#8), (0x1210#16, 0x80#8)] with b := 0x12#8 }
    (fun t => t.a == 0x80#8 && t.pc == 0x0202#16 && t.p.n && !t.p.z) = true := by decide

theorem test_tl_3_lda : after { vectorStart 0x0200#16 [0xA1#8, 0xF0#8] [(0x1200#16, 0x12#8), (0x1234#16, 0x77#8), (0x12FF#16, 0x34#8), (0x1300#16, 0xEE#8)] with x := 0x0F#8, b := 0x12#8 }
    (fun t => t.a == 0x77#8 && t.pc == 0x0202#16 && !t.p.n && !t.p.z) = true := by decide

theorem test_tl_8_lda : after { vectorStart 0x0400#16 [0xE2#8, 0x02#8] [(0x0101#16, 0x11#8), (0x0102#16, 0x11#8), (0x0201#16, 0x00#8), (0x0202#16, 0x60#8), (0x6000#16, 0x81#8)] with sp := 0x01FF#16, y := 0x00#8, p := { vectorFlags with e := true } }
    (fun t => t.a == 0x81#8 && t.sp == 0x01FF#16 && t.pc == 0x0402#16 && t.p.n && !t.p.z) = true := by decide

theorem test_tl_9_ldx : after { vectorStart 0x0200#16 [0xB6#8, 0x20#8] [(0x0010#16, 0x07#8)] with y := 0xF0#8 }
    (fun t => t.x == 0x07#8 && t.pc == 0x0202#16 && !t.p.n && !t.p.z) = true := by decide

theorem test_tl_10_ldy : after { vectorStart 0x0200#16 [0xBC#8, 0x34#8, 0x12#8] [(0x1333#16, 0xFF#8)] with x := 0xFF#8 }
    (fun t => t.y == 0xFF#8 && t.pc == 0x0203#16 && t.p.n && !t.p.z) = true := by decide

theorem test_tl_13_ldz : after { vectorStart 0x0200#16 [0xBB#8, 0xFF#8, 0xFF#8] [(0x0001#16, 0x80#8)] with x := 0x02#8 }
    (fun t => t.z == 0x80#8 && t.pc == 0x0203#16 && t.p.n && !t.p.z) = true := by decide

theorem test_tl_14_sta : after { vectorStart 0x0200#16 [0x92#8, 0x20#8] [(0x0020#16, 0x00#8), (0x0021#16, 0x40#8)] with a := 0x5A#8, z := 0x03#8 }
    (fun t => t.pc == 0x0202#16 && t.mem.read 0x4003 == 0x5A#8) = true := by decide

theorem test_tl_15_sta : after { vectorStart 0x0200#16 [0x82#8, 0x01#8] [(0x1FFF#16, 0x00#8), (0x2000#16, 0x30#8)] with a := 0xA5#8, sp := 0x1FFE#16, y := 0x01#8, p := { vectorFlags with e := false } }
    (fun t => t.sp == 0x1FFE#16 && t.pc == 0x0202#16 && t.mem.read 0x3001 == 0xA5#8) = true := by decide

theorem test_tl_16_stx : after { vectorStart 0x0200#16 [0x9B#8, 0x34#8, 0x12#8] [] with x := 0x11#8, y := 0x02#8 }
    (fun t => t.pc == 0x0203#16 && t.mem.read 0x1236 == 0x11#8) = true := by decide

theorem test_tl_17_sty : after { vectorStart 0x0200#16 [0x8B#8, 0x34#8, 0x12#8] [] with y := 0x22#8, x := 0x02#8 }
    (fun t => t.pc == 0x0203#16 && t.mem.read 0x1236 == 0x22#8) = true := by decide

theorem test_tl_18_stz : after { vectorStart 0x0200#16 [0x64#8, 0x40#8] [] with z := 0x03#8 }
    (fun t => t.pc == 0x0202#16 && t.mem.read 0x0040 == 0x03#8) = true := by decide

/-! ### Stack: the rows TK-n of spec/95_test_vectors.md -/

theorem test_tk_2_pha : after { vectorStart 0x0200#16 [0x48#8] [] with a := 0x7E#8, sp := 0x0100#16, p := { vectorFlags with e := true } }
    (fun t => t.sp == 0x01FF#16 && t.pc == 0x0201#16 && t.mem.read 0x0100 == 0x7E#8) = true := by decide

theorem test_tk_3_pha : after { vectorStart 0x0200#16 [0x48#8] [] with a := 0x7E#8, sp := 0x0100#16, p := { vectorFlags with e := false } }
    (fun t => t.sp == 0x00FF#16 && t.pc == 0x0201#16 && t.mem.read 0x0100 == 0x7E#8) = true := by decide

theorem test_tk_5_php : after { vectorStart 0x0200#16 [0x08#8] [] with p := { vectorFlags with n := true, c := true, e := true } }
    (fun t => t.sp == 0x01FE#16 && t.pc == 0x0201#16 && t.mem.read 0x01FF == 0xB1#8) = true := by decide

theorem test_tk_6_php : after { vectorStart 0x0200#16 [0x08#8] [] with sp := 0x2000#16, p := { vectorFlags with e := false } }
    (fun t => t.sp == 0x1FFF#16 && t.pc == 0x0201#16 && t.mem.read 0x2000 == 0x10#8) = true := by decide

theorem test_tk_11_phw : after { vectorStart 0x0200#16 [0xF4#8, 0x00#8, 0x30#8] [] with sp := 0x2000#16, p := { vectorFlags with e := false }, cfg := { Params.default with phwOrder := .lowFirst } }
    (fun t => t.sp == 0x1FFE#16 && t.pc == 0x0203#16 && t.mem.read 0x2000 == 0x00#8 && t.mem.read 0x1FFF == 0x30#8) = true := by decide

theorem test_tk_13_phw : after { vectorStart 0x0200#16 [0xF4#8, 0xEF#8, 0xBE#8] [] with sp := 0x0100#16, p := { vectorFlags with e := true } }
    (fun t => t.sp == 0x01FE#16 && t.pc == 0x0203#16 && t.mem.read 0x0100 == 0xBE#8 && t.mem.read 0x01FF == 0xEF#8) = true := by decide

theorem test_tk_15_pla : after { vectorStart 0x0400#16 [0x68#8] [(0x0100#16, 0x80#8), (0x0200#16, 0x01#8)] with sp := 0x01FF#16, p := { vectorFlags with e := true } }
    (fun t => t.a == 0x80#8 && t.sp == 0x0100#16 && t.pc == 0x0401#16 && t.p.n && !t.p.z) = true := by decide

theorem test_tk_17_plp : after { vectorStart 0x0200#16 [0x28#8] [(0x01FF#16, 0xFF#8)] with sp := 0x01FE#16, p := { vectorFlags with e := false } }
    (fun t => t.sp == 0x01FF#16 && t.pc == 0x0201#16 && t.p.n && t.p.v && !t.p.e && t.p.d && t.p.i && t.p.z && t.p.c) = true := by decide

theorem test_tk_18_plp : after { vectorStart 0x0200#16 [0x28#8] [(0x01FF#16, 0x00#8)] with sp := 0x01FE#16, p := { vectorFlags with e := true, n := true, c := true, i := true } }
    (fun t => t.sp == 0x01FF#16 && t.pc == 0x0201#16 && !t.p.n && !t.p.v && t.p.e && !t.p.d && !t.p.i && !t.p.z && !t.p.c) = true := by decide

theorem test_tk_21_plz : after { vectorStart 0x0200#16 [0xFB#8] [(0x01FC#16, 0x00#8)] with sp := 0x01FB#16 }
    (fun t => t.z == 0x00#8 && t.sp == 0x01FC#16 && t.pc == 0x0201#16 && !t.p.n && t.p.z) = true := by decide

/-! ### Transfers: the rows TT-n of spec/95_test_vectors.md -/

theorem test_tt_5_tsx : after { vectorStart 0x0200#16 [0xBA#8] [] with sp := 0x20FD#16, p := { vectorFlags with e := false } }
    (fun t => t.x == 0xFD#8 && t.pc == 0x0201#16 && t.p.n && !t.p.z) = true := by decide

theorem test_tt_6_txs : after { vectorStart 0x0200#16 [0x9A#8] [] with x := 0xFF#8, sp := 0x0123#16, p := { vectorFlags with n := false, z := false } }
    (fun t => t.sp == 0x01FF#16 && t.pc == 0x0201#16 && !t.p.n && !t.p.z) = true := by decide

theorem test_tt_9_tab : after { vectorStart 0x0200#16 [0x5B#8] [] with a := 0x12#8, p := { vectorFlags with n := true, z := true } }
    (fun t => t.b == 0x12#8 && t.pc == 0x0201#16 && t.p.n && t.p.z) = true := by decide

theorem test_tt_12_tsy : after { vectorStart 0x0200#16 [0x0B#8] [] with sp := 0x01FF#16 }
    (fun t => t.y == 0x01#8 && t.pc == 0x0201#16 && !t.p.n && !t.p.z) = true := by decide

theorem test_tt_14_tys : after { vectorStart 0x0200#16 [0x2B#8] [] with y := 0x20#8, sp := 0x01FF#16, p := { vectorFlags with n := true, z := true } }
    (fun t => t.sp == 0x20FF#16 && t.pc == 0x0201#16 && t.p.n && t.p.z) = true := by decide

/-! ### Logic and bits: the rows TG-n of spec/95_test_vectors.md -/

theorem test_tg_1_and : after { vectorStart 0x0200#16 [0x29#8, 0x3C#8] [] with a := 0xF0#8 }
    (fun t => t.a == 0x30#8 && t.pc == 0x0202#16 && !t.p.n && !t.p.z) = true := by decide

theorem test_tg_4_ora : after { vectorStart 0x0200#16 [0x12#8, 0x20#8] [(0x0020#16, 0x00#8), (0x0021#16, 0x40#8), (0x4001#16, 0x02#8)] with a := 0x01#8, z := 0x01#8 }
    (fun t => t.a == 0x03#8 && t.pc == 0x0202#16 && !t.p.n && !t.p.z) = true := by decide

theorem test_tg_6_eor : after { vectorStart 0x0200#16 [0x52#8, 0x20#8] [(0x0020#16, 0x00#8), (0x0021#16, 0x40#8), (0x4001#16, 0xAA#8)] with a := 0xAA#8, z := 0x01#8 }
    (fun t => t.a == 0x00#8 && t.pc == 0x0202#16 && !t.p.n && t.p.z) = true := by decide

theorem test_tg_7_bit : after { vectorStart 0x0200#16 [0x2C#8, 0x34#8, 0x12#8] [(0x1234#16, 0xC0#8)] with a := 0x01#8 }
    (fun t => t.a == 0x01#8 && t.pc == 0x0203#16 && t.p.n && t.p.v && t.p.z) = true := by decide

theorem test_tg_8_bit : after { vectorStart 0x0200#16 [0x89#8, 0xC0#8] [] with a := 0x01#8, p := { vectorFlags with n := false, v := false } }
    (fun t => t.pc == 0x0202#16 && !t.p.n && !t.p.v && t.p.z) = true := by decide

theorem test_tg_9_tsb : after { vectorStart 0x0200#16 [0x04#8, 0x10#8] [(0x0010#16, 0x04#8)] with a := 0x05#8 }
    (fun t => t.pc == 0x0202#16 && !t.p.z && t.mem.read 0x0010 == 0x05#8) = true := by decide

theorem test_tg_10_trb : after { vectorStart 0x0200#16 [0x14#8, 0x10#8] [(0x0010#16, 0x0C#8)] with a := 0x05#8 }
    (fun t => t.pc == 0x0202#16 && !t.p.z && t.mem.read 0x0010 == 0x08#8) = true := by decide

theorem test_tg_12_rmb3 : after (vectorStart 0x0200#16 [0x37#8, 0x20#8] [(0x0020#16, 0xFF#8)])
    (fun t => t.pc == 0x0202#16 && t.mem.read 0x0020 == 0xF7#8) = true := by decide

theorem test_tg_13_smb7 : after { vectorStart 0x0200#16 [0xF7#8, 0x20#8] [(0x1220#16, 0x00#8)] with b := 0x12#8 }
    (fun t => t.pc == 0x0202#16 && t.mem.read 0x1220 == 0x80#8) = true := by decide

/-! ### Branches: the rows TB-n of spec/95_test_vectors.md -/

theorem test_tb_2_bpl : after { vectorStart 0x1000#16 [0x10#8, 0x05#8] [] with p := { vectorFlags with n := true } }
    (fun t => t.pc == 0x1002#16) = true := by decide

theorem test_tb_6_bvc : after { vectorStart 0xFFFE#16 [0x53#8, 0x00#8, 0x01#8] [] with p := { vectorFlags with v := false } }
    (fun t => t.pc == 0x0100#16) = true := by decide

theorem test_tb_8_bvs : after { vectorStart 0x2000#16 [0x73#8, 0x00#8, 0x10#8] [] with p := { vectorFlags with v := true } }
    (fun t => t.pc == 0x3002#16) = true := by decide

theorem test_tb_12_bne : after { vectorStart 0x0317#16 [0xD0#8, 0xF7#8] [] with p := { vectorFlags with z := false } }
    (fun t => t.pc == 0x0310#16) = true := by decide

theorem test_tb_16_bra : after (vectorStart 0xFFF0#16 [0x80#8, 0x7F#8] [])
    (fun t => t.pc == 0x0071#16) = true := by decide

theorem test_tb_18_bra : after (vectorStart 0x1000#16 [0x80#8, 0x80#8] [])
    (fun t => t.pc == 0x0F82#16) = true := by decide

theorem test_tb_19_bbr0 : after (vectorStart 0x1010#16 [0x0F#8, 0x20#8, 0xED#8] [(0x0020#16, 0xFE#8)])
    (fun t => t.pc == 0x1000#16) = true := by decide

theorem test_tb_20_bbr0 : after (vectorStart 0x1010#16 [0x0F#8, 0x20#8, 0xED#8] [(0x0020#16, 0x01#8)])
    (fun t => t.pc == 0x1013#16) = true := by decide

theorem test_tb_21_bbs7 : after { vectorStart 0x1010#16 [0xFF#8, 0x20#8, 0x05#8] [(0x0020#16, 0x00#8), (0x1220#16, 0x80#8)] with b := 0x12#8 }
    (fun t => t.pc == 0x1018#16) = true := by decide

/-! ### Interrupts, traps and reset: the rows X-n of spec/95_test_vectors.md -/

/-- The vectors of its section 3. -/
def vectorBytes : List (Word × Byte) :=
  [(0xFFFA#16, 0x00#8), (0xFFFB#16, 0x90#8), (0xFFFC#16, 0x00#8), (0xFFFD#16, 0xE0#8), (0xFFFE#16, 0x00#8),
   (0xFFFF#16, 0x80#8)]

theorem test_x_1_irq : after { vectorStart 0x0234#16 [] vectorBytes with
      irqLine := true, p := { vectorFlags with n := true, d := true, c := true } }
    (fun t => t.mem.read 0x01FF == 0x02#8 && t.mem.read 0x01FE == 0x34#8 && t.mem.read 0x01FD == 0xA9#8 &&
      t.sp == 0x01FC#16 && t.p == { vectorFlags with n := true, i := true, c := true } && t.pc == 0x8000#16) = true := by
  decide

theorem test_x_2_masked_irq : after { vectorStart 0x0234#16 [0xEA#8] vectorBytes with
      irqLine := true, p := { vectorFlags with i := true } }
    (fun t => t.sp == 0x01FF#16 && t.irqLine && t.pc == 0x0235#16) = true := by decide

theorem test_x_3_nmi : after { vectorStart 0x0234#16 [] vectorBytes with
      nmiPending := true, p := { vectorFlags with v := true, i := true } }
    (fun t => t.mem.read 0x01FF == 0x02#8 && t.mem.read 0x01FE == 0x34#8 && t.mem.read 0x01FD == 0x64#8 &&
      t.sp == 0x01FC#16 && t.p.i && !t.nmiPending && t.pc == 0x9000#16) = true := by decide

theorem test_x_4_irq_on_sixteen_bit_stack : after { vectorStart 0xC123#16 [] vectorBytes with
      irqLine := true, sp := 0x2000#16, p := { vectorFlags with e := false, z := true } }
    (fun t => t.mem.read 0x2000 == 0xC1#8 && t.mem.read 0x1FFF == 0x23#8 && t.mem.read 0x1FFE == 0x02#8 &&
      t.sp == 0x1FFD#16 && t.p.i && !t.p.e && t.pc == 0x8000#16) = true := by decide

theorem test_x_5_irq_wraps_in_stack_page : after { vectorStart 0x0234#16 [] vectorBytes with
      irqLine := true, sp := 0x0100#16 }
    (fun t => t.mem.read 0x0100 == 0x02#8 && t.mem.read 0x01FF == 0x34#8 && t.mem.read 0x01FE == 0x20#8 &&
      t.sp == 0x01FD#16 && t.pc == 0x8000#16) = true := by decide

theorem test_x_7_nmi_before_irq : after { vectorStart 0x0234#16 [] vectorBytes with nmiPending := true, irqLine := true }
    (fun t => t.mem.read 0x01FD == 0x20#8 && t.p.i && t.irqLine && t.pc == 0x9000#16) = true := by decide

theorem test_x_8_reset : after { vectorStart 0x0234#16 [] ((0x1FF0#16, 0xAB#8) :: vectorBytes) with
      resetLine := true, nmiPending := true, z := 0x77#8, b := 0x12#8, sp := 0x2037#16
      p := ⟨true, true, false, true, false, false, true⟩ }
    (fun t => t.z == 0x00#8 && t.b == 0x00#8 && t.p.e && t.p.i && !t.p.d && !t.nmiPending &&
      t.mem.read 0x1FF0 == 0xAB#8 && t.pc == 0xE000#16) = true := by decide

/-- The lines take over the levels of the next sample and an edge sets the latch (log entry 10). -/
theorem test_inputs_are_sampled : after { vectorStart 0x0200#16 [0xEA#8] [] with inputs := [⟨true, true, false⟩] }
    (fun t => t.irqLine && t.nmiPending && !t.resetLine && t.inputs == []) = true := by decide

/-! ### Runs (70_reset_and_hazards.md R300) -/

/-- Whether a run ends in a state of which `check` holds. -/
def endsIn (r : RunResult) (check : State → Bool) : Bool :=
  match r with
  | .ended t => check t
  | _ => false

/-- The IRQ entry at the first boundary is not one of the run's instructions: the one instruction is the handler's. -/
theorem test_interrupt_entry_counts_for_no_instruction :
    endsIn (runUntil { endPc := none, instructions := some 1 } 2
        { vectorStart 0x0234#16 [0xEA#8] ((0x8000#16, 0xE8#8) :: vectorBytes) with irqLine := true })
      (fun t => t.x == 0x01#8 && t.pc == 0x8001#16) = true := by decide

/-- END_PC ends a run before the instruction there, whatever number of instructions is left. -/
theorem test_end_pc_ends_a_run :
    endsIn (runUntil { endPc := some 0x0201#16, instructions := some 7 } 2 (vectorStart 0x0200#16 [0xE8#8, 0xE8#8] []))
      (fun t => t.x == 0x01#8 && t.pc == 0x0201#16) = true := by decide

/-- The loops that end a test program by convention, and an instruction that goes on. -/
theorem test_self_loops_leave_pc_unchanged :
    pcUnchanged (vectorStart 0x0200#16 [0x80#8, 0xFE#8] []) = true ∧
    pcUnchanged (vectorStart 0x0200#16 [0x83#8, 0xFE#8, 0xFF#8] []) = true ∧
    pcUnchanged (vectorStart 0x0200#16 [0x4C#8, 0x00#8, 0x02#8] []) = true ∧
    pcUnchanged (vectorStart 0x0200#16 [0xEA#8] []) = false := by decide

theorem test_run_from_power_on :
    endsIn (runFromPowerOn { endPc := none, instructions := some 0 } 0 { vectorStart 0x0234#16 [] vectorBytes with b := 0x12#8 })
      (fun t => t.pc == 0xE000#16 && t.b == 0x00#8 && t.draws == 1) = true := by decide

/-! ### Witnesses: operands -/

/-- Page 2 is the base page; X, Y, Z and S make the sums of the indexed forms wrap; every operand is valid BCD. -/
def demo : State :=
  { vectorStart 0x0400#16 [0xEA#8]
      [(0x02FF#16, 0x34#8), (0x0200#16, 0x12#8), (0x0205#16, 0x99#8), (0x0210#16, 0x00#8), (0xFFFF#16, 0x10#8),
       (0x000F#16, 0x09#8), (0x00EF#16, 0x90#8), (0x1234#16, 0x55#8), (0x1324#16, 0x42#8), (0x1333#16, 0x87#8),
       (0x01FF#16, 0xFE#8), (0x13EE#16, 0x66#8)] with
    a := 0x99#8
    x := 0x10#8
    y := 0xF0#8
    z := 0xFF#8
    b := 0x02#8
    sp := 0x0100#16 }

/-- Every operand form in memory names a byte of the state, at the ends of pages and of the address space. -/
def AllForms (s : State) : Prop :=
  OperandAt (.bp 0xFF#8) s 0x02FF#16 0x34#8 ∧
  OperandAt (.bpX 0xF5#8) s 0x0205#16 0x99#8 ∧
  OperandAt (.bpY 0x20#8) s 0x0210#16 0x00#8 ∧
  OperandAt (.abs 0xFFFF#16) s 0xFFFF#16 0x10#8 ∧
  OperandAt (.absX 0xFFFF#16) s 0x000F#16 0x09#8 ∧
  OperandAt (.absY 0xFFFF#16) s 0x00EF#16 0x90#8 ∧
  OperandAt (.indX 0xEF#8) s 0x1234#16 0x55#8 ∧
  OperandAt (.indY 0xFF#8) s 0x1324#16 0x42#8 ∧
  OperandAt (.indZ 0xFF#8) s 0x1333#16 0x87#8 ∧
  OperandAt (.spIndY 0xFF#8) s 0x13EE#16 0x66#8

theorem witness_forms : AllForms demo := by
  refine ⟨?_, ?_, ?_, ?_, ?_, ?_, ?_, ?_, ?_, ?_⟩ <;> exact ⟨rfl, by decide, rfl⟩

theorem witness_LoadsSetRegisterAndNZ : AllForms demo := witness_forms

theorem witness_StoresWriteOneByte : AllForms demo := witness_forms

theorem witness_ComparesSetFlagsOnly : AllForms demo := witness_forms

theorem witness_LogicResult : AllForms demo := witness_forms

theorem witness_BitTestResult : AllForms demo := witness_forms

theorem witness_TsbTrbResult : AllForms demo := witness_forms

theorem witness_MemoryBitResetAndSet : AllForms demo := witness_forms

theorem witness_AslLsrResult : AllForms demo := witness_forms

theorem witness_RolRorResult : AllForms demo := witness_forms

theorem witness_AsrResult : AllForms demo := witness_forms

theorem witness_IncDecResult : AllForms demo := witness_forms

theorem witness_AdcBinaryResult : demo.p.d = false ∧ AllForms demo := ⟨rfl, witness_forms⟩

theorem witness_SbcBinaryResult : demo.p.d = false ∧ AllForms demo := ⟨rfl, witness_forms⟩

theorem witness_BinaryOverflowIsSigned : demo.p.d = false := rfl

/-- `demo` in decimal mode. -/
def demoDecimal : State := { demo with p := { vectorFlags with d := true, c := true } }

theorem witness_decimal_forms : AllForms demoDecimal := by
  refine ⟨?_, ?_, ?_, ?_, ?_, ?_, ?_, ?_, ?_, ?_⟩ <;> exact ⟨rfl, by decide, rfl⟩

/-- A and the operand byte of every form are valid BCD; A is the greatest such byte. -/
theorem witness_DecimalResultOnValidBcd :
    demoDecimal.p.d = true ∧ demoDecimal.a.toNat / 16 ≤ 9 ∧ demoDecimal.a.toNat % 16 ≤ 9 ∧ AllForms demoDecimal ∧
      ∀ m ∈ [0x34#8, 0x99#8, 0x00#8, 0x10#8, 0x09#8, 0x90#8, 0x55#8, 0x42#8, 0x87#8, 0x66#8],
        BitVec.toNat m / 16 ≤ 9 ∧ BitVec.toNat m % 16 ≤ 9 :=
  ⟨rfl, by decide, by decide, witness_decimal_forms, by decide⟩

/-- A just beyond valid BCD in its low nibble, every form with its operand; and a bad operand beside a good A. -/
theorem witness_DecimalInvalidBcdCompletes :
    { demoDecimal with a := 0x9A#8 }.p.d = true ∧ 9 < BitVec.toNat (0x9A#8) % 16 ∧
      AllForms { demoDecimal with a := 0x9A#8 } ∧ 9 < BitVec.toNat (0xA0#8) / 16 := by
  refine ⟨rfl, by decide, ⟨?_, ?_, ?_, ?_, ?_, ?_, ?_, ?_, ?_, ?_⟩, by decide⟩ <;> exact ⟨rfl, by decide, rfl⟩

theorem witness_NegNegatesAccumulator : demo.a ≠ 0x80#8 ∧ { demo with a := 0x80#8 }.a = 0x80#8 := by decide

theorem witness_IndirectAddressingModes :
    (Accessible demo 0x02FF#16 ∧ Accessible demo 0x0200#16) ∧ (Accessible demo 0x01FF#16 ∧ Accessible demo 0x0200#16) := by
  decide

/-- The word at the end of the address space, and the one at the end of the base page. -/
theorem witness_WordShiftResult : Accessible demo 0xFFFF#16 ∧ Accessible demo (0xFFFF#16 + 1#16) := by decide

theorem witness_WordIncDecResult :
    Accessible demo (BitVec.ofNat 16 (demo.b.toNat * 256 + 255)) ∧
      Accessible demo (BitVec.ofNat 16 (demo.b.toNat * 256 + (255 + 1) % 256)) := by decide

theorem witness_BitBranchesTestBasePageByte :
    Accessible demo (BitVec.ofNat 16 (demo.b.toNat * 256 + (0xFF#8).toNat)) := by decide

/-! ### Witnesses: stack and control -/

theorem witness_PushesStoreAtStackPointer : Accessible demo demo.sp := by decide

theorem witness_PhwPushesTwoBytes :
    Accessible demo demo.sp ∧ Accessible demo (spDown demo.p.e demo.sp) ∧ Accessible demo 0xFFFF#16 ∧
      Accessible demo (0xFFFF#16 + 1#16) := by decide

theorem witness_PullsReadAboveStackPointer : Accessible demo (spUp demo.p.e demo.sp 1) := by decide

theorem witness_JumpsGoToTarget :
    Accessible demo 0xFFFF#16 ∧ Accessible demo (0xFFFF#16 + 1#16) ∧
      Accessible demo (BitVec.ofNat 16 ((0xFFFF#16).toNat + demo.x.toNat)) ∧
      Accessible demo (BitVec.ofNat 16 ((0xFFFF#16).toNat + demo.x.toNat) + 1#16) := by decide

theorem witness_CallsPushReturnAddress :
    Accessible demo demo.sp ∧ Accessible demo (spDown demo.p.e demo.sp) ∧ Accessible demo 0xFFFF#16 ∧
      Accessible demo (0xFFFF#16 + 1#16) ∧ Accessible demo (BitVec.ofNat 16 ((0xFFFF#16).toNat + demo.x.toNat)) ∧
      Accessible demo (BitVec.ofNat 16 ((0xFFFF#16).toNat + demo.x.toNat) + 1#16) := by decide

/-- Every address of `demo` is ram. -/
theorem demo_ram (a : Word) : kindAt demo a = .ram := rfl

theorem witness_StepProceedsOnExactMap : ExactMap demo := fun a => .inl (demo_ram a)

/-- Both orders of RTN: the addresses for every operand, the greatest among them. -/
theorem witness_ReturnsPullAddressPlusOne (k : Nat) :
    Accessible demo (spUp demo.p.e demo.sp (k + 1)) ∧ Accessible demo (spUp demo.p.e demo.sp (k + 2)) := by
  constructor <;> (rw [Accessible, demo_ram]; decide)

theorem witness_RtiRestoresFlagsAndPc :
    Accessible demo (spUp demo.p.e demo.sp 1) ∧ Accessible demo (spUp demo.p.e demo.sp 2) ∧
      Accessible demo (spUp demo.p.e demo.sp 3) := by decide

theorem witness_BrkTakesBreak : TrapAccessible demo demo.cfg.vecIrq := by
  refine ⟨?_, ?_, ?_, ?_, ?_⟩ <;> decide

/-- The handler wrote A and every flag but E. -/
theorem witness_TrapEntryThenRtiResumes :
    ∃ t, trapEntry 0xFFFE#16 0x0402#16 true demo = .ok t ∧
      (let h : State := { t with a := 0x00#8, p := ⟨true, true, true, true, true, true, true⟩ }
      (∀ a ∈ [demo.sp, spDown demo.p.e demo.sp, spDown demo.p.e (spDown demo.p.e demo.sp)],
        kindAt demo a = .ram ∧ h.mem.read a.toNat = t.mem.read a.toNat) ∧
      h.sp = t.sp ∧ h.p.e = t.p.e ∧ h.cfg = t.cfg) :=
  ⟨_, rfl, fun a _ => ⟨demo_ram a, rfl⟩, rfl, rfl, rfl⟩

/-- The four calls; the called routine wrote A. -/
theorem witness_CallThenRtsReturns :
    ∀ i ∈ [Instr.jsrAbs 0x1234#16, .jsrAbsInd 0xFFFF#16, .jsrAbsXInd 0xFFFF#16, .bsr 0xFFFE#16],
      (encode i).headD 0#8 ∈ [0x20#8, 0x22#8, 0x23#8, 0x63#8] ∧
      ∃ t, exec i demo = .next t ∧
        (let h : State := { t with a := 0x00#8 }
        (∀ a ∈ [demo.sp, spDown demo.p.e demo.sp], kindAt demo a = .ram ∧ h.mem.read a.toNat = t.mem.read a.toNat) ∧
        h.sp = t.sp ∧ h.p.e = t.p.e ∧ h.cfg = t.cfg) := by
  intro i hi
  simp only [List.mem_cons, List.not_mem_nil, or_false] at hi
  rcases hi with rfl | rfl | rfl | rfl <;>
    exact ⟨by decide, _, rfl, fun a _ => ⟨demo_ram a, rfl⟩, rfl, rfl, rfl⟩

/-! ### Witnesses: encoding -/

theorem witness_DecodeInvertsEncode : (Instr.ldaAbs 0xFFFF#16).wellFormed = true := rfl

theorem witness_EncodeInvertsDecode :
    decode [0x5C#8, 0xFF#8, 0x00#8, 0x80#8, 0xEA#8] = .ok (.aug 0xFF#8 0x00#8 0x80#8, [0xEA#8]) := rfl

theorem witness_BytesOfTableLengthDecode :
    wellFormedBytes [0x00#8, 0xFF#8] = true ∧ wellFormedBytes [0xFF#8, 0x00#8, 0x80#8] = true ∧
      wellFormedBytes [0x5C#8, 0x00#8, 0x00#8, 0x00#8] = true ∧ wellFormedBytes [0x60#8] = true := by decide

/-! ### Witnesses: steps -/

/-- AUG across the end of the address space, with IRQ active and masked. -/
theorem witness_StepRunsDecodedInstruction :
    let s : State := { vectorStart 0xFFFE#16 [0x5C#8, 0x01#8, 0x02#8, 0x03#8] [] with
      irqLine := true, p := { vectorFlags with i := true } }
    let bs : List Byte := [0x5C#8, 0x01#8, 0x02#8, 0x03#8]
    s.resetLine = false ∧ s.nmiPending = false ∧ (s.irqLine = false ∨ s.p.i = true) ∧ wellFormedBytes bs = true ∧
      decode bs = .ok (.aug 0x01#8 0x02#8 0x03#8, []) ∧
      ∀ (k : Nat) (h : k < bs.length),
        (kindAt s (s.pc + BitVec.ofNat 16 k) = .ram ∨ kindAt s (s.pc + BitVec.ofNat 16 k) = .rom) ∧
        s.mem.read (s.pc + BitVec.ofNat 16 k).toNat = bs[k] := by
  refine ⟨rfl, rfl, .inr rfl, rfl, rfl, by decide⟩

/-- No sample; a sample; and a step of each event, with a sample and without. RESET stays active where no sample
releases it, and the sample after it releases it. -/
theorem witness_NextBoundaryTakesInputs :
    (demo.inputs = [] ∧ acceptedEvent demo = .instruction ∧ ∃ t, step demo = .next t) ∧
    (let s : State := { demo with irqLine := true }
    s.inputs = [] ∧ acceptedEvent s = .irq ∧ ∃ t, step s = .next t) ∧
    (let s : State := { demo with nmiPending := true, inputs := [⟨false, true, false⟩] }
    s.inputs = ⟨false, true, false⟩ :: [] ∧ acceptedEvent s = .nmi ∧ ∃ t, step s = .next t ∧ t.nmiPending = true) ∧
    (let s : State := { demo with resetLine := true, nmiPending := true }
    s.inputs = [] ∧ acceptedEvent s = .reset ∧ ∃ t, step s = .next t ∧ t.resetLine = true ∧ t.nmiPending = false) ∧
    (let s : State := { demo with resetLine := true, inputs := [⟨true, false, false⟩, ⟨false, false, false⟩] }
    acceptedEvent s = .reset ∧ ∃ t, step s = .next t ∧ t.resetLine = false ∧ t.irqLine = true) :=
  ⟨⟨rfl, rfl, _, rfl⟩, ⟨rfl, rfl, _, rfl⟩, ⟨rfl, rfl, _, rfl, rfl⟩, ⟨rfl, rfl, _, rfl, rfl, rfl⟩, rfl, _, rfl, rfl, rfl⟩

/-- NMI pending with I = 1 and IRQ active. -/
theorem witness_StepTakesNmi :
    let s : State := { demo with nmiPending := true, irqLine := true, p := { vectorFlags with i := true } }
    s.resetLine = false ∧ s.nmiPending = true ∧ TrapAccessible s s.cfg.vecNmi := by
  refine ⟨rfl, rfl, ?_, ?_, ?_, ?_, ?_⟩ <;> decide

theorem witness_StepTakesIrq :
    let s : State := { demo with irqLine := true }
    s.resetLine = false ∧ s.nmiPending = false ∧ s.irqLine = true ∧ s.p.i = false ∧ TrapAccessible s s.cfg.vecIrq := by
  refine ⟨rfl, rfl, rfl, rfl, ?_, ?_, ?_, ?_, ?_⟩ <;> decide

theorem witness_StepPerformsReset :
    let s : State := { demo with resetLine := true, nmiPending := true, irqLine := true }
    s.resetLine = true ∧ Accessible s s.cfg.vecReset ∧ Accessible s (s.cfg.vecReset + 1#16) := by
  refine ⟨rfl, ?_, ?_⟩ <;> decide

/-- A step that stores (PHA), from a canonical memory that is not empty. -/
theorem witness_StepKeepsMemoryCanonical :
    let s := vectorStart 0x0400#16 [0x48#8] [(0x1234#16, 0x55#8)]
    s.mem.wf = true ∧ s.mem ≠ [] ∧ ∃ t, step s = .next t := ⟨by decide, by decide, _, rfl⟩

/-- rom at 0x8000 to 0xFFFF, a device at 0xD000 to 0xDFFF (named first), 0x4000 to 0x4FFF unmapped, the rest ram. -/
def mapped : State :=
  { demo with cfg := { Params.default with regions := [⟨0xD000, 0x1000, .device⟩, ⟨0x8000, 0x8000, .rom⟩, ⟨0x4000, 0x1000, .unmapped⟩] } }

theorem test_map_boundaries :
    kindAt mapped 0xCFFF#16 = .rom ∧ kindAt mapped 0xD000#16 = .device ∧ kindAt mapped 0xDFFF#16 = .device ∧
      kindAt mapped 0xE000#16 = .rom ∧ kindAt mapped 0xFFFF#16 = .rom ∧ kindAt mapped 0x3FFF#16 = .ram ∧
      kindAt mapped 0x4000#16 = .unmapped ∧ kindAt mapped 0x4FFF#16 = .unmapped ∧ kindAt mapped 0x5000#16 = .ram := by
  decide

theorem witness_StepKeepsParameters : ∃ t, step mapped = .next t := ⟨_, rfl⟩

/-- STA to rom: the step proceeds and the address is not ram. -/
theorem witness_StepKeepsBytesOutsideRam :
    let s : State := { mapped with mem := placeBytes [0x8D#8, 0x00#8, 0x80#8] 0x0400#16 [] }
    (∃ t, step s = .next t) ∧ kindAt s 0x8000#16 ≠ .ram := ⟨⟨_, rfl⟩, by decide⟩

/-- One state and operand for each clause: data, pointer, stack and vector bytes in the device, at its ends and as the
second of two bytes; the reset vector; the opcode and the last operand byte in the device and unmapped. -/
theorem witness_DeviceAndUnmappedRefusals :
    firstDevice mapped [0xD000#16] = some 0xD000#16 ∧
    firstDevice mapped [0xCFFF#16, 0xD000#16] = some 0xD000#16 ∧
    (let s : State := { mapped with b := 0xDF#8 }
    effectiveAddress (.bp 0xFF#8) s = .ok 0xDFFF#16 ∧ kindAt s 0xDFFF#16 = .device ∧
      effectiveAddress (.indY 0xFF#8) s = .error (.deviceAccess 0xDFFF#16)) ∧
    (let s : State := { mapped with sp := 0xCFFE#16 }
    firstDevice s [BitVec.ofNat 16 (s.sp.toNat + 1), BitVec.ofNat 16 (s.sp.toNat + 1 + 1)] = some 0xD000#16) ∧
    (let s : State := { mapped with sp := 0xE001#16, p := { vectorFlags with e := false } }
    firstDevice s [s.sp, spDown s.p.e s.sp, spDown s.p.e (spDown s.p.e s.sp)] = some 0xDFFF#16) ∧
    (let s : State := { mapped with sp := 0xD0FF#16 }
    firstDevice s [spUp s.p.e s.sp 1] = some 0xD000#16) ∧
    (let s : State := { mapped with sp := 0xCFFD#16, p := { vectorFlags with e := false } }
    firstDevice s [spUp s.p.e s.sp 1, spUp s.p.e s.sp 2, spUp s.p.e s.sp 3] = some 0xD000#16) ∧
    (let s : State := { mapped with cfg := { mapped.cfg with vecIrq := 0xCFFF#16 } }
    firstDevice s [s.sp, spDown s.p.e s.sp, spDown s.p.e (spDown s.p.e s.sp), s.cfg.vecIrq, s.cfg.vecIrq + 1#16]
      = some 0xD000#16) ∧
    (let s : State := { mapped with resetLine := true, cfg := { mapped.cfg with vecReset := 0xDFFF#16 } }
    s.resetLine = true ∧ firstDevice s [s.cfg.vecReset, s.cfg.vecReset + 1#16] = some 0xDFFF#16) ∧
    (let s : State := { mapped with pc := 0xD000#16 }
    acceptedEvent s = .instruction ∧ kindAt s s.pc = .device) ∧
    (let s : State := { mapped with pc := 0xCFFD#16, mem := placeBytes [0x5C#8] 0xCFFD#16 [] }
    3 < instrLength (s.mem.read s.pc.toNat) ∧ acceptedEvent s = .instruction ∧
      (∀ i < 3, kindAt s (s.pc + BitVec.ofNat 16 i) = .ram ∨ kindAt s (s.pc + BitVec.ofNat 16 i) = .rom) ∧
      kindAt s (s.pc + BitVec.ofNat 16 3) = .device) ∧
    (let s : State := { mapped with pc := 0x3FFE#16, mem := placeBytes [0xAD#8] 0x3FFE#16 [] }
    2 < instrLength (s.mem.read s.pc.toNat) ∧ acceptedEvent s = .instruction ∧
      (∀ i < 2, kindAt s (s.pc + BitVec.ofNat 16 i) = .ram ∨ kindAt s (s.pc + BitVec.ofNat 16 i) = .rom) ∧
      kindAt s (s.pc + BitVec.ofNat 16 2) = .unmapped) ∧
    kindAt mapped 0x4000#16 = .unmapped ∧ kindAt mapped 0x4FFF#16 = .unmapped := by
  refine ⟨?_, ?_, ⟨rfl, ?_, rfl⟩, ?_⟩ <;> decide

/-- END_PC at the first boundary; a run that has ended; RESET active and then released; an accessible vector. -/
theorem witness_RunEndsAtEndPcOrAfterInstructions :
    ({ endPc := some 0x0400#16, instructions := none } : RunLimit).endPc = some demo.pc ∧
    (∃ u, runUntil { endPc := none, instructions := some 1 } 1 demo = .ended u) ∧
    (let s : State := { demo with resetLine := true, inputs := [⟨false, true, true⟩, ⟨true, false, false⟩] }
    ExactMap s ∧ resetReleased s = true ∧ Accessible s s.cfg.vecReset ∧ Accessible s (s.cfg.vecReset + 1#16)) :=
  ⟨rfl, ⟨_, rfl⟩, fun _ => .inl rfl, rfl, by decide, by decide⟩

theorem witness_RegistersWrittenOnlyAsListed : ∃ t, step demo = .next t := ⟨_, rfl⟩

/-- CLE, SEE and a reset. -/
theorem witness_ExtendDisableWrittenOnlyByCleSeeReset :
    (let s := vectorStart 0x0400#16 [0x02#8] []
    ExecutesOneOf s [0x02#8] ∧ ∃ t, step s = .next t) ∧
    (let s := vectorStart 0x0400#16 [0x03#8] []
    ExecutesOneOf s [0x03#8] ∧ ∃ t, step s = .next t) ∧
    (let s : State := { demo with resetLine := true }
    acceptedEvent s = .reset ∧ ∃ t, step s = .next t) :=
  ⟨⟨⟨rfl, by decide⟩, _, rfl⟩, ⟨⟨rfl, by decide⟩, _, rfl⟩, rfl, _, rfl⟩

theorem witness_OverflowDecimalInterruptWriters : ∃ t, step demo = .next t := ⟨_, rfl⟩

/-- BRK on the 8-bit stack with S.L = 0. -/
theorem witness_EightBitStackKeepsItsPage :
    let s : State := { vectorStart 0x0400#16 [0x00#8, 0x00#8] [] with sp := 0x0100#16 }
    s.p.e = true ∧ acceptedEvent s ≠ .reset ∧ ∃ t, step s = .next t := ⟨rfl, by decide, _, rfl⟩

/-! ### Witnesses: memory -/

theorem witness_ReadAfterWrite :
    (kindAt mapped 0x0000#16 = .ram ∧ 0xFFFF#16 ≠ 0x0000#16 ∧ ∃ t, memWrite 0x0000#16 0xFF#8 mapped = .ok t) ∧
    (kindAt mapped 0xFFFF#16 ≠ .ram ∧ ∃ t, memWrite 0xFFFF#16 0xFF#8 mapped = .ok t) :=
  ⟨⟨by decide, by decide, _, rfl⟩, by decide, _, rfl⟩

theorem witness_WordWriteOrderIsUnobservable :
    demo.mem.wf = true ∧ 0xFFFF#16 ≠ 0x0000#16 ∧
    (∃ t, writeWord 0xFFFF#16 0x0000#16 0x1200#16 { demo with cfg := { demo.cfg with wordRmwOrder := .loHi } } = .ok t) ∧
    (∃ u, writeWord 0xFFFF#16 0x0000#16 0x1200#16 { demo with cfg := { demo.cfg with wordRmwOrder := .hiLo } } = .ok u) :=
  ⟨by decide, by decide, ⟨_, rfl⟩, _, rfl⟩

end Sys2Proof.Tests
end

section
/-! What an instruction, a trap entry or a reset can change: registers, the flags, and bytes by the store rule of
20_memory.md R43. Proved once for each shared operation and once over all instructions, so that an invariant of the
machine needs only be shown for one write. -/

namespace Sys2Proof.Machine

/-- One write of the processor: a register, the flags, or one byte stored where the map allows it (R43). -/
inductive Write : State → State → Prop where
  | a (v : Byte) (s : State) : Write s (s.setA v)
  | x (v : Byte) (s : State) : Write s (s.setX v)
  | y (v : Byte) (s : State) : Write s (s.setY v)
  | z (v : Byte) (s : State) : Write s (s.setZ v)
  | b (v : Byte) (s : State) : Write s (s.setB v)
  | sp (v : Word) (s : State) : Write s (s.setSp v)
  | pc (v : Word) (s : State) : Write s (s.setPc v)
  | p (v : Flags) (s : State) : Write s (s.setP v)
  | mem (addr : Word) (v : Byte) (s : State) : Write s (s.setMem (storedMem s addr v))

/-- Any number of writes, one after another. -/
inductive Writes (s : State) : State → Prop where
  | refl : Writes s s
  | tail {t u : State} : Writes s t → Write t u → Writes s u

variable {s t u : State}

theorem Writes.single (h : Write s t) : Writes s t := .tail .refl h

theorem Writes.trans (h₁ : Writes s t) (h₂ : Writes t u) : Writes s u := by
  induction h₂ with
  | refl => exact h₁
  | tail _ hw ih => exact ih.tail hw

/-! ### Registers and bytes written after other writes -/

theorem Writes.setPc (h : Writes s t) (v : Word) : Writes s (t.setPc v) := h.tail (.pc v t)
theorem Writes.setP (h : Writes s t) (v : Flags) : Writes s (t.setP v) := h.tail (.p v t)
theorem Writes.setSp (h : Writes s t) (v : Word) : Writes s (t.setSp v) := h.tail (.sp v t)
theorem Writes.store (h : Writes s t) (addr : Word) (v : Byte) : Writes s (t.setMem (storedMem t addr v)) :=
  h.tail (.mem addr v t)

/-- Two stored bytes are two writes. -/
theorem writes_storedMem2 (s : State) (a : Word) (v : Byte) (b : Word) (w : Byte) :
    Writes s (s.setMem (storedMem2 s a v b w)) :=
  (Writes.store .refl a v).store b w

/-- The three stacked bytes of a trap entry are three writes. -/
theorem writes_trapMem (s : State) (ret : Word) (brk : Bool) : Writes s (s.setMem (trapMem s ret brk)) :=
  (writes_storedMem2 s _ _ _ _).store _ _

/-! ### The shared operations only write -/

theorem push_writes {v : Byte} (h : push v s = .ok t) : Writes s t := by
  obtain ⟨-, rfl⟩ := push_eq_ok.1 h
  exact (Writes.store .refl _ _).setSp _

theorem pushReturn_writes (h : pushReturn s = .ok t) : Writes s t := by
  obtain ⟨-, -, rfl⟩ := pushWord_eq_ok.1 h
  exact (writes_storedMem2 s _ _ _ _).setSp _

theorem pushOperandWord_writes {w : Word} (h : pushOperandWord w s = .ok t) : Writes s t := by
  obtain ⟨-, -, rfl⟩ := pushOperandWord_eq_ok.1 h
  exact (writes_storedMem2 s _ _ _ _).setSp _

theorem writeWord_writes {lo hi w : Word} (h : writeWord lo hi w s = .ok t) : Writes s t := by
  obtain ⟨-, -, rfl⟩ := writeWord_eq_ok.1 h
  cases s.cfg.wordRmwOrder
  · exact writes_storedMem2 s lo _ hi _
  · exact writes_storedMem2 s hi _ lo _

theorem trapEntry_writes {vec ret : Word} {brk : Bool} (h : trapEntry vec ret brk s = .ok t) : Writes s t := by
  obtain ⟨-, -, -, -, -, rfl⟩ := trapEntry_eq_ok.1 h
  exact (((writes_trapMem s ret brk).setSp _).setP _).setPc _

theorem pull_writes {k : Nat} {v : Byte} (h : pull k s = .ok (v, t)) : Writes s t := by
  obtain ⟨-, -, rfl⟩ := pull_eq_ok.1 h
  exact .setSp .refl _

theorem pullWord_writes {k : Nat} {w : Word} (h : pullWord k s = .ok (w, t)) : Writes s t := by
  obtain ⟨-, -, -, rfl⟩ := pullWord_eq_ok.1 h
  exact .setSp .refl _

theorem trapReturn_writes (h : trapReturn s = .ok t) : Writes s t := by
  obtain ⟨⟨status, s1⟩, hstatus, h⟩ := bind_eq_ok.1 h
  obtain ⟨⟨ret, s2⟩, hret, h⟩ := bind_eq_ok.1 h
  obtain rfl := Except.ok.inj h
  exact (((pull_writes hstatus).setP _).trans (pullWord_writes hret)).setPc _

/-- A reset clears the NMI latch, which no instruction writes; the rest of it is writes to registers. -/
theorem resetSequence_writes (h : resetSequence s = .ok t) : Writes { s with nmiPending := false } t := by
  obtain ⟨-, -, rfl⟩ := resetSequence_eq_ok.1 h
  have registers : Writes { s with nmiPending := false } _ :=
    .tail (.tail (.tail (.tail (.tail .refl (.a (Config.resetA s.draws) _)) (.x (Config.resetX s.draws) _))
      (.y (Config.resetY s.draws) _)) (.z 0x00#8 _)) (.b 0x00#8 _)
  exact ((registers.setSp _).setP _).setPc _

theorem jumpThrough_writes {q : Word} (h : jumpThrough q s = .ok t) : Writes s t := by
  obtain ⟨-, -, rfl⟩ := jumpThrough_eq_ok.1 h
  exact .setPc .refl _

theorem branchBit_writes {n : Nat} {want : Bool} {a r : Byte} (h : branchBit n want a r s = .ok t) : Writes s t := by
  obtain ⟨-, rfl⟩ := branchBit_eq_ok.1 h
  exact .setPc .refl _

theorem returnSub_writes (h : returnSub s = .ok t) : Writes s t := by
  obtain ⟨-, -, rfl⟩ := returnSub_eq_ok.1 h
  exact (Writes.setSp .refl _).setPc _

theorem returnAdjust_writes {d : Byte} (h : returnAdjust d s = .ok t) : Writes s t := by
  obtain ⟨-, -, rfl⟩ := returnAdjust_eq_ok.1 h
  exact (Writes.setSp .refl _).setPc _

/-! ### The shapes of instruction only write -/

section
variable {set : Byte → State → State} (hset : ∀ v s, Write s (set v s))
include hset

theorem load_writes {o : Source} (h : load set o s = .ok t) : Writes s t := by
  obtain ⟨v, -, rfl⟩ := load_eq_ok.1 h
  exact (Writes.single (hset v s)).setP _

theorem pullReg_writes (h : pullReg set s = .ok t) : Writes s t := by
  obtain ⟨-, rfl⟩ := pullReg_eq_ok.1 h
  exact ((Writes.setSp .refl _).tail (hset _ _)).setP _

theorem transfer_writes {v : Byte} (h : transfer v set s = .ok t) : Writes s t := by
  obtain rfl := Except.ok.inj h
  exact (Writes.single (hset v s)).setP _

theorem modifyReg_writes {f : Byte → Flags → Byte × Flags} {reg : Byte} (h : modifyReg f reg set s = .ok t) :
    Writes s t := by
  obtain rfl := Except.ok.inj h
  exact (Writes.single (hset _ s)).setP _

end

theorem store_writes {v : Byte} {m : Mode} (h : store v m s = .ok t) : Writes s t := by
  obtain ⟨ea, -, -, rfl⟩ := store_eq_ok.1 h
  exact .store .refl ea v

theorem accumulate_writes {f : Byte → Byte → Flags → Byte × Flags} {o : Source} (h : accumulate f o s = .ok t) :
    Writes s t := by
  obtain ⟨m, -, rfl⟩ := accumulate_eq_ok.1 h
  exact (Writes.single (.a _ s)).setP _

theorem testOperand_writes {f : Byte → Byte → Flags → Flags} {reg : Byte} {o : Source}
    (h : testOperand f reg o s = .ok t) : Writes s t := by
  obtain ⟨m, -, rfl⟩ := testOperand_eq_ok.1 h
  exact .setP .refl _

theorem modify_writes {f : Byte → Flags → Byte × Flags} {o : Place} (h : modify f o s = .ok t) : Writes s t := by
  cases o with
  | acc =>
    obtain rfl := Except.ok.inj h
    exact (Writes.single (.a _ s)).setP _
  | mem m =>
    obtain ⟨ea, -, -, rfl⟩ := modify_mem_eq_ok.1 h
    exact (Writes.store .refl ea _).setP _

theorem modifyWord_writes {f : Word → Flags → Word × Flags} {lo hi : Word} (h : modifyWord f lo hi s = .ok t) :
    Writes s t := by
  obtain ⟨-, -, u, hu, rfl⟩ := modifyWord_eq_ok.1 h
  exact (writeWord_writes hu).setP _

/-! ### How an instruction ends -/

/-- An instruction that only moves PC past itself after `r`. -/
theorem advance_writes {r : Res State} {len : Word} (h : advance len r = .next t)
    (hr : ∀ {u}, r = .ok u → Writes s u) : Writes s t := by
  obtain ⟨u, hu, rfl⟩ := advance_eq_next.1 h
  exact (hr hu).setPc _

theorem outcome_writes {r : Res State} (h : outcome r = .next t) (hr : ∀ {u}, r = .ok u → Writes s u) :
    Writes s t :=
  hr (outcome_eq_next.1 h)

/-- One write, then PC past the instruction. -/
theorem advance_ok_writes {len : Word} (hu : Write s u) (h : advance len (.ok u) = .next t) : Writes s t :=
  advance_writes h (fun hr => Except.ok.inj hr ▸ .single hu)

theorem next_setPc_writes {v : Word} (h : (.next (s.setPc v) : Result) = .next t) : Writes s t := by
  obtain rfl := Host.Outcome.next.inj h
  exact .setPc .refl v

/-- A call: the return address is pushed, then `k` goes on. -/
theorem pushReturn_bind_writes {k : State → Res State} (hk : ∀ {u v}, k u = .ok v → Writes u v)
    (h : outcome (pushReturn s >>= k) = .next t) : Writes s t := by
  obtain ⟨u, hu, ht⟩ := bind_eq_ok.1 (outcome_eq_next.1 h)
  exact (pushReturn_writes hu).trans (hk ht)

theorem ok_setPc_writes {v : Word} (h : (pure (s.setPc v) : Res State) = .ok t) : Writes s t := by
  obtain rfl := Except.ok.inj h
  exact .setPc .refl v

theorem execPlp_writes (h : execPlp s = .next t) : Writes s t := by
  refine advance_writes h (fun {u} hu => ?_)
  obtain ⟨⟨v, s1⟩, hpull, hset⟩ := bind_eq_ok.1 hu
  obtain rfl := Except.ok.inj hset
  exact (pull_writes hpull).setP _

theorem execPhwAbs_writes {a : Word} (h : execPhwAbs a s = .next t) : Writes s t := by
  refine advance_writes h (fun {u} hu => ?_)
  obtain ⟨w, -, hpush⟩ := bind_eq_ok.1 hu
  exact pushOperandWord_writes hpush

/-! ### Every instruction, every boundary -/

/-- Whatever an instruction does is done by writes: one case for each shape of instruction. -/
theorem exec_writes {i : Instr} (h : exec i s = .next t) : Writes s t := by
  unfold exec at h
  cases i with
  | oraIndX | oraBp | oraImm | oraAbs | oraIndY | oraIndZ | oraBpX | oraAbsY | oraAbsX
  | andIndX | andBp | andImm | andAbs | andIndY | andIndZ | andBpX | andAbsY | andAbsX
  | eorIndX | eorBp | eorImm | eorAbs | eorIndY | eorIndZ | eorBpX | eorAbsY | eorAbsX
  | adcIndX | adcBp | adcImm | adcAbs | adcIndY | adcIndZ | adcBpX | adcAbsY | adcAbsX
  | sbcIndX | sbcBp | sbcImm | sbcAbs | sbcIndY | sbcIndZ | sbcBpX | sbcAbsY | sbcAbsX =>
    exact advance_writes h accumulate_writes
  | bitBp | bitAbs | bitBpX | bitAbsX | bitImm
  | cmpIndX | cmpBp | cmpImm | cmpAbs | cmpIndY | cmpIndZ | cmpBpX | cmpAbsY | cmpAbsX
  | cpxImm | cpxBp | cpxAbs | cpyImm | cpyBp | cpyAbs | cpzImm | cpzBp | cpzAbs =>
    exact advance_writes h testOperand_writes
  | tsbBp | tsbAbs | trbBp | trbAbs | neg
  | aslA | aslBp | aslAbs | aslBpX | aslAbsX | lsrA | lsrBp | lsrAbs | lsrBpX | lsrAbsX
  | rolA | rolBp | rolAbs | rolBpX | rolAbsX | rorA | rorBp | rorAbs | rorBpX | rorAbsX | asrA | asrBp | asrBpX
  | incA | incBp | incAbs | incBpX | incAbsX | decA | decBp | decAbs | decBpX | decAbsX
  | rmb0 | rmb1 | rmb2 | rmb3 | rmb4 | rmb5 | rmb6 | rmb7
  | smb0 | smb1 | smb2 | smb3 | smb4 | smb5 | smb6 | smb7 => exact advance_writes h modify_writes
  | inw | dew | asw | row => exact advance_writes h modifyWord_writes
  | ldaIndX | ldaBp | ldaImm | ldaAbs | ldaIndY | ldaIndZ | ldaBpX | ldaAbsY | ldaAbsX | ldaSpIndY =>
    exact advance_writes h (load_writes .a)
  | ldxImm | ldxBp | ldxAbs | ldxBpY | ldxAbsY => exact advance_writes h (load_writes .x)
  | ldyImm | ldyBp | ldyAbs | ldyBpX | ldyAbsX => exact advance_writes h (load_writes .y)
  | ldzImm | ldzAbs | ldzAbsX => exact advance_writes h (load_writes .z)
  | staIndX | staSpIndY | staBp | staAbs | staIndY | staIndZ | staBpX | staAbsY | staAbsX
  | stxBp | stxAbs | stxBpY | stxAbsY | styBp | styAbsX | styAbs | styBpX | stzBp | stzBpX | stzAbs | stzAbsX =>
    exact advance_writes h store_writes
  | txa | tya | tza | tba => exact advance_writes h (transfer_writes .a)
  | tax | tsx => exact advance_writes h (transfer_writes .x)
  | tay | tsy => exact advance_writes h (transfer_writes .y)
  | taz => exact advance_writes h (transfer_writes .z)
  | inx | dex => exact advance_writes h (modifyReg_writes .x)
  | iny | dey => exact advance_writes h (modifyReg_writes .y)
  | inz | dez => exact advance_writes h (modifyReg_writes .z)
  | pha | php | phx | phy | phz => exact advance_writes h push_writes
  | phwImmWord => exact advance_writes h pushOperandWord_writes
  | phwAbs => exact execPhwAbs_writes h
  | pla => exact advance_writes h (pullReg_writes .a)
  | plx => exact advance_writes h (pullReg_writes .x)
  | ply => exact advance_writes h (pullReg_writes .y)
  | plz => exact advance_writes h (pullReg_writes .z)
  | plp => exact execPlp_writes h
  | tab => exact advance_ok_writes (.b _ s) h
  | txs | tys => exact advance_ok_writes (.sp _ s) h
  | clc | sec | cld | sed | cli | sei | clv | cle | see => exact advance_ok_writes (.p _ s) h
  | nop | aug => exact advance_writes h (fun hu => Except.ok.inj hu ▸ .refl)
  | bplR8 | bmiR8 | bvcR8 | bvsR8 | bccR8 | bcsR8 | bneR8 | beqR8 | braR8
  | bplR16 | bmiR16 | bvcR16 | bvsR16 | bccR16 | bcsR16 | bneR16 | beqR16 | braR16 | jmpAbs =>
    exact next_setPc_writes h
  | bbr0 | bbr1 | bbr2 | bbr3 | bbr4 | bbr5 | bbr6 | bbr7 | bbs0 | bbs1 | bbs2 | bbs3 | bbs4 | bbs5 | bbs6 | bbs7 =>
    exact outcome_writes h branchBit_writes
  | jmpAbsInd | jmpAbsXInd => exact outcome_writes h jumpThrough_writes
  | jsrAbs | bsr => exact pushReturn_bind_writes ok_setPc_writes h
  | jsrAbsInd | jsrAbsXInd => exact pushReturn_bind_writes jumpThrough_writes h
  | rts => exact outcome_writes h returnSub_writes
  | rtn => exact outcome_writes h returnAdjust_writes
  | rti => exact outcome_writes h trapReturn_writes
  | brk => exact outcome_writes h trapEntry_writes

/-- What one boundary does (R263): writes, after a cleared NMI latch where an NMI or a reset is accepted. -/
theorem act_writes (h : act s = .next t) : Writes s t ∨ Writes { s with nmiPending := false } t := by
  unfold act at h
  cases he : acceptedEvent s <;> simp only [he] at h
  case reset => exact .inr (outcome_writes h resetSequence_writes)
  case nmi => exact .inr (outcome_writes h trapEntry_writes)
  case irq => exact .inl (outcome_writes h trapEntry_writes)
  case instruction =>
    cases hf : fetchInstr s with
    | ok i => simp only [hf] at h; exact .inl (exec_writes h)
    | error r => simp [hf] at h

theorem step_eq_next : step s = .next t ↔ ∃ u, act s = .next u ∧ t = nextBoundary u := by
  unfold step
  cases act s <;> simp [eq_comm]

/-! ### The parameters (00_scope.md R4) -/

theorem Write.cfg_eq (h : Write s t) : t.cfg = s.cfg := by
  cases h <;> rfl

theorem Writes.cfg_eq (h : Writes s t) : t.cfg = s.cfg := by
  induction h with
  | refl => rfl
  | tail _ hw ih => exact hw.cfg_eq.trans ih

theorem act_cfg_eq (h : act s = .next t) : t.cfg = s.cfg :=
  (act_writes h).elim Writes.cfg_eq Writes.cfg_eq

theorem step_cfg_eq (h : step s = .next t) : t.cfg = s.cfg := by
  obtain ⟨u, hu, rfl⟩ := step_eq_next.1 h
  exact (nextBoundary_cfg u).trans (act_cfg_eq hu)

/-- Settles O13: every step is a series of writes, none of which touches the parameters, and the kind of an address
depends on the parameters alone. -/
theorem stepKeepsParameters : Obligations.StepKeepsParameters :=
  fun _ _ h => ⟨step_cfg_eq h, kindAt_congr (step_cfg_eq h)⟩

end Sys2Proof.Machine
end

section
/-! The opcode of a decoded instruction is the byte it was decoded from (30_encoding.md R70, R101). -/

namespace Sys2Proof

/-- The opcode byte of an instruction: the first one of its encoding (R70). -/
def opcodeOf (i : Instr) : Byte := (encode i).headD 0x00#8

/-- The opcode of the instruction a format completes from operand bytes `b`, `c`, `d` or an operand word `w`. -/
def Format.opcode (b c d : Byte) (w : Word) : Format → Byte
  | .f1 i => opcodeOf i
  | .f2 k => opcodeOf (k b)
  | .f3 k => opcodeOf (k w)
  | .f3b k => opcodeOf (k b c)
  | .f4 k => opcodeOf (k b c d)

/-- Each row of the opcode map holds its sixteen opcodes in order, whatever the operands. -/
theorem opcodeRows_opcode (b c d : Byte) (w : Word) :
    opcodeRow0.map (·.opcode b c d w) = (List.range' 0x00 16).map (BitVec.ofNat 8) ∧
    opcodeRow1.map (·.opcode b c d w) = (List.range' 0x10 16).map (BitVec.ofNat 8) ∧
    opcodeRow2.map (·.opcode b c d w) = (List.range' 0x20 16).map (BitVec.ofNat 8) ∧
    opcodeRow3.map (·.opcode b c d w) = (List.range' 0x30 16).map (BitVec.ofNat 8) ∧
    opcodeRow4.map (·.opcode b c d w) = (List.range' 0x40 16).map (BitVec.ofNat 8) ∧
    opcodeRow5.map (·.opcode b c d w) = (List.range' 0x50 16).map (BitVec.ofNat 8) ∧
    opcodeRow6.map (·.opcode b c d w) = (List.range' 0x60 16).map (BitVec.ofNat 8) ∧
    opcodeRow7.map (·.opcode b c d w) = (List.range' 0x70 16).map (BitVec.ofNat 8) ∧
    opcodeRow8.map (·.opcode b c d w) = (List.range' 0x80 16).map (BitVec.ofNat 8) ∧
    opcodeRow9.map (·.opcode b c d w) = (List.range' 0x90 16).map (BitVec.ofNat 8) ∧
    opcodeRowA.map (·.opcode b c d w) = (List.range' 0xA0 16).map (BitVec.ofNat 8) ∧
    opcodeRowB.map (·.opcode b c d w) = (List.range' 0xB0 16).map (BitVec.ofNat 8) ∧
    opcodeRowC.map (·.opcode b c d w) = (List.range' 0xC0 16).map (BitVec.ofNat 8) ∧
    opcodeRowD.map (·.opcode b c d w) = (List.range' 0xD0 16).map (BitVec.ofNat 8) ∧
    opcodeRowE.map (·.opcode b c d w) = (List.range' 0xE0 16).map (BitVec.ofNat 8) ∧
    opcodeRowF.map (·.opcode b c d w) = (List.range' 0xF0 16).map (BitVec.ofNat 8) :=
  ⟨rfl, rfl, rfl, rfl, rfl, rfl, rfl, rfl, rfl, rfl, rfl, rfl, rfl, rfl, rfl, rfl⟩

theorem opcodeMap_opcode (b c d : Byte) (w : Word) :
    opcodeMap.map (·.opcode b c d w) = (List.range' 0 256).map (BitVec.ofNat 8) := by
  simp only [opcodeMap, List.map_append, opcodeRows_opcode b c d w]
  simp only [← List.map_append]
  exact congrArg _ (by decide +kernel)

theorem formatOf_opcode (op b c d : Byte) (w : Word) : (formatOf op).opcode b c d w = op := by
  have hop : op.toNat < 256 := op.isLt
  have entry := congrArg (·[op.toNat]?) (opcodeMap_opcode b c d w)
  simp only [List.getElem?_map, List.getElem?_range' hop, Option.map_some, Option.map_eq_some_iff] at entry
  obtain ⟨f, hf, hfop⟩ := entry
  rw [formatOf, List.getD_eq_getElem?_getD, hf]
  simpa using hfop

theorem opcodeOf_of_decode {op : Byte} {i : Instr} {bytes rest : List Byte}
    (h : decode (op :: bytes) = .ok (i, rest)) : opcodeOf i = op := by
  have key := formatOf_opcode op
  cases hf : formatOf op <;> simp only [hf, Format.opcode] at key
  case f1 j =>
    simp only [decode, hf, Except.ok.injEq, Prod.mk.injEq] at h
    exact h.1 ▸ key 0 0 0 0
  case f2 k =>
    rcases bytes with _ | ⟨b, _⟩ <;> simp [decode, hf] at h
    exact h.1 ▸ key b 0 0 0
  case f3 k =>
    rcases bytes with _ | ⟨lo, _ | ⟨hi, _⟩⟩ <;> simp [decode, hf] at h
    exact h.1 ▸ key 0 0 0 (Machine.mkWord hi lo)
  case f3b k =>
    rcases bytes with _ | ⟨b, _ | ⟨c, _⟩⟩ <;> simp [decode, hf] at h
    exact h.1 ▸ key b c 0 0
  case f4 k =>
    rcases bytes with _ | ⟨b, _ | ⟨c, _ | ⟨d, _⟩⟩⟩ <;> simp [decode, hf] at h
    exact h.1 ▸ key b c d 0

end Sys2Proof

namespace Sys2Proof.Machine

variable {s : State} {i : Instr}

theorem fetchByte_eq {addr : Word} {v : Byte} (h : fetchByte addr s = .ok v) : v = s.mem.read addr.toNat := by
  unfold fetchByte at h
  split at h <;> simp_all

/-- The fetched instruction was decoded from the byte at PC and what follows it. -/
theorem fetchInstr_decode (h : fetchInstr s = .ok i) :
    ∃ bytes rest, decode (s.mem.read s.pc.toNat :: bytes) = .ok (i, rest) := by
  obtain ⟨bs, hbs, hi⟩ := bind_eq_ok.1 h
  obtain ⟨op, hop, hbs⟩ := bind_eq_ok.1 hbs
  obtain ⟨bytes, -, hbs⟩ := bind_eq_ok.1 hbs
  obtain rfl := Except.ok.inj hbs
  obtain rfl := fetchByte_eq hop
  cases hd : decode (s.mem.read s.pc.toNat :: bytes) with
  | error e => simp [hd] at hi
  | ok r =>
    simp only [hd] at hi
    obtain rfl := Except.ok.inj hi
    exact ⟨bytes, r.2, hd⟩

theorem opcodeOf_of_fetchInstr (h : fetchInstr s = .ok i) : opcodeOf i = s.mem.read s.pc.toNat := by
  obtain ⟨bytes, rest, hd⟩ := fetchInstr_decode h
  exact opcodeOf_of_decode hd

/-- A one-byte instruction is fetched where its opcode stands at PC. -/
theorem fetchInstr_of_f1 {j : Instr} {op : Byte} (h : fetchInstr s = .ok i) (hop : s.mem.read s.pc.toNat = op)
    (hj : formatOf op = .f1 j) : i = j := by
  obtain ⟨bytes, rest, hd⟩ := fetchInstr_decode h
  rw [hop, decode_f1 hj] at hd
  exact (Prod.mk.inj (Except.ok.inj hd)).1.symm

end Sys2Proof.Machine
end

section
/-! What one boundary does, and the inputs up to the next one (60_exceptions.md R262, R263; log entry 10). -/

namespace Sys2Proof.Machine

variable {s t : State}

/-- Everything a boundary can do (R263). -/
theorem act_cases (h : act s = .next t) :
    (acceptedEvent s = .reset ∧ resetSequence s = .ok t) ∨
    (acceptedEvent s = .nmi ∧ takeNmi s = .ok t) ∨
    (acceptedEvent s = .irq ∧ takeIrq s = .ok t) ∨
    (acceptedEvent s = .instruction ∧ ∃ i, fetchInstr s = .ok i ∧ exec i s = .next t) := by
  unfold act at h
  cases he : acceptedEvent s <;> simp only [he] at h
  case reset => exact .inl ⟨rfl, outcome_eq_next.1 h⟩
  case nmi => exact .inr (.inl ⟨rfl, outcome_eq_next.1 h⟩)
  case irq => exact .inr (.inr (.inl ⟨rfl, outcome_eq_next.1 h⟩))
  case instruction =>
    cases hf : fetchInstr s with
    | ok i => simp only [hf] at h; exact .inr (.inr (.inr ⟨rfl, i, rfl, h⟩))
    | error r => simp [hf] at h

/-- The inputs, the NMI latch and the draw counter of two states agree. -/
structure SameInputs (s t : State) : Prop where
  inputs : t.inputs = s.inputs
  irqLine : t.irqLine = s.irqLine
  resetLine : t.resetLine = s.resetLine
  nmiPending : t.nmiPending = s.nmiPending
  draws : t.draws = s.draws

theorem SameInputs.trans {u : State} (h₁ : SameInputs s t) (h₂ : SameInputs t u) : SameInputs s u :=
  ⟨h₂.inputs.trans h₁.inputs, h₂.irqLine.trans h₁.irqLine, h₂.resetLine.trans h₁.resetLine,
    h₂.nmiPending.trans h₁.nmiPending, h₂.draws.trans h₁.draws⟩

theorem Write.sameInputs (h : Write s t) : SameInputs s t := by
  cases h <;> exact ⟨rfl, rfl, rfl, rfl, rfl⟩

/-- No write of the processor reaches the inputs. -/
theorem Writes.sameInputs (h : Writes s t) : SameInputs s t := by
  induction h with
  | refl => exact ⟨rfl, rfl, rfl, rfl, rfl⟩
  | tail _ hw ih => exact ih.trans hw.sameInputs

/-- The NMI latch after what the boundary does and before the next sample (R262, R290). -/
def latchAfter (s : State) : Bool :=
  match acceptedEvent s with
  | .reset => false
  | .nmi => false
  | .irq => s.nmiPending
  | .instruction => s.nmiPending

/-- What a boundary does leaves the inputs and the draw counter; an NMI and a reset clear the latch. -/
theorem act_sameInputs (h : act s = .next t) : SameInputs { s with nmiPending := latchAfter s } t := by
  unfold latchAfter
  rcases act_cases h with ⟨he, h⟩ | ⟨he, h⟩ | ⟨he, h⟩ | ⟨he, i, -, h⟩ <;> rw [he]
  · exact (resetSequence_writes h).sameInputs
  · exact (trapEntry_writes h).sameInputs
  · exact (trapEntry_writes h).sameInputs
  · exact (exec_writes h).sameInputs

theorem nextBoundary_of_nil (h : s.inputs = []) : nextBoundary s = { s with draws := s.draws + 1 } := by
  simp [nextBoundary, h]

theorem nextBoundary_of_cons {j : InputSample} {js : List InputSample} (h : s.inputs = j :: js) :
    nextBoundary s = { s with
      draws := s.draws + 1
      irqLine := j.irq
      resetLine := j.reset
      nmiPending := s.nmiPending || j.nmiEdge
      inputs := js } := by
  simp [nextBoundary, h]

/-- Settles O6: what the boundary does reaches the inputs only by the latch, and `nextBoundary` takes the sample. -/
theorem nextBoundaryTakesInputs : Obligations.NextBoundaryTakesInputs := by
  refine ⟨fun s => nextBoundary_of_nil, fun s j js => nextBoundary_of_cons, fun s t h => ?_⟩
  obtain ⟨u, hu, rfl⟩ := step_eq_next.1 h
  have executed (he : acceptedEvent s = .instruction) : ∃ i, fetchInstr s = .ok i ∧ exec i s = .next u := by
    simpa [he] using act_cases hu
  obtain ⟨hinputs, hirq, hreset, hnmi, hdraws⟩ := act_sameInputs hu
  refine ⟨⟨u, hu, rfl, executed, hinputs, hirq, hreset, hnmi, hdraws⟩, ?_, ?_⟩
  · rw [nextBoundary_draws, hdraws]
  · cases hs : s.inputs with
    | nil =>
      rw [nextBoundary_of_nil (hinputs.trans hs)]
      exact ⟨hinputs.trans hs, hirq, hreset, hnmi⟩
    | cons j js =>
      rw [nextBoundary_of_cons (hinputs.trans hs)]
      exact ⟨rfl, rfl, rfl, congrArg (· || j.nmiEdge) hnmi⟩

end Sys2Proof.Machine
end

section
/-! Which registers and flags an instruction, a trap entry or a reset can change (the access summary, 10_state.md R30):
one lemma for each write and each shape of instruction, and one case split over all instructions. -/

namespace Sys2Proof.Machine

open Sys2Proof.Safety

/-! ### The stack inside its page -/

/-- From `sp` to `sp'` the 8-bit stack stays in its page: S.H is kept while `e` holds (R16). -/
def InPage (e : Bool) (sp sp' : Word) : Prop := e = true → hiByte sp' = hiByte sp

section
variable {e : Bool} {sp sp' : Word}

theorem InPage.refl : InPage e sp sp := fun _ => rfl

theorem InPage.add (h : InPage e sp sp') (d : Byte) : InPage e sp (stackAdd e sp' d) := by
  rintro rfl
  simpa [stackAdd] using h rfl

theorem InPage.inc (h : InPage e sp sp') : InPage e sp (stackInc e sp') := by
  rw [stackInc_eq]
  exact h.add 1#8

theorem InPage.dec (h : InPage e sp sp') : InPage e sp (stackDec e sp') := by
  rintro rfl
  simpa [stackDec] using h rfl

end

/-! ### The parts of the state that the access summary speaks of -/

/-- A register, a flag, or S.H while the stack is 8 bits wide. -/
inductive Part where
  | a | x | y | z | b | v | e | d | i | page

/-- The opcodes that may write the part (R22, R23, R25, R26, R30). -/
def Part.writers : Part → List Byte
  | .a =>
    [0x01#8, 0x05#8, 0x09#8, 0x0A#8, 0x0D#8, 0x11#8, 0x12#8, 0x15#8, 0x19#8, 0x1A#8, 0x1D#8, 0x21#8, 0x25#8,
      0x29#8, 0x2A#8, 0x2D#8, 0x31#8, 0x32#8, 0x35#8, 0x39#8, 0x3A#8, 0x3D#8, 0x41#8, 0x42#8, 0x43#8, 0x45#8,
      0x49#8, 0x4A#8, 0x4D#8, 0x51#8, 0x52#8, 0x55#8, 0x59#8, 0x5D#8, 0x61#8, 0x65#8, 0x68#8, 0x69#8, 0x6A#8,
      0x6B#8, 0x6D#8, 0x71#8, 0x72#8, 0x75#8, 0x79#8, 0x7B#8, 0x7D#8, 0x8A#8, 0x98#8, 0xA1#8, 0xA5#8, 0xA9#8,
      0xAD#8, 0xB1#8, 0xB2#8, 0xB5#8, 0xB9#8, 0xBD#8, 0xE1#8, 0xE2#8, 0xE5#8, 0xE9#8, 0xED#8, 0xF1#8, 0xF2#8,
      0xF5#8, 0xF9#8, 0xFD#8]
  | .x => [0xA2#8, 0xA6#8, 0xAA#8, 0xAE#8, 0xB6#8, 0xBA#8, 0xBE#8, 0xCA#8, 0xE8#8, 0xFA#8]
  | .y => [0x0B#8, 0x7A#8, 0x88#8, 0xA0#8, 0xA4#8, 0xA8#8, 0xAC#8, 0xB4#8, 0xBC#8, 0xC8#8]
  | .z => [0x1B#8, 0x3B#8, 0x4B#8, 0xA3#8, 0xAB#8, 0xBB#8, 0xFB#8]
  | .b => [0x5B#8]
  | .v =>
    [0x24#8, 0x28#8, 0x2C#8, 0x34#8, 0x3C#8, 0x40#8, 0x61#8, 0x65#8, 0x69#8, 0x6D#8, 0x71#8, 0x72#8, 0x75#8,
      0x79#8, 0x7D#8, 0xB8#8, 0xE1#8, 0xE5#8, 0xE9#8, 0xED#8, 0xF1#8, 0xF2#8, 0xF5#8, 0xF9#8, 0xFD#8]
  | .e => [0x02#8, 0x03#8]
  | .d => [0x00#8, 0x28#8, 0x40#8, 0xD8#8, 0xF8#8]
  | .i => [0x00#8, 0x28#8, 0x40#8, 0x58#8, 0x78#8]
  | .page => [0x2B#8]

/-- The part is in `t` what it is in `s`. -/
def Part.Same (s t : State) : Part → Prop
  | .a => t.a = s.a
  | .x => t.x = s.x
  | .y => t.y = s.y
  | .z => t.z = s.z
  | .b => t.b = s.b
  | .v => t.p.v = s.p.v
  | .e => t.p.e = s.p.e
  | .d => t.p.d = s.p.d
  | .i => t.p.i = s.p.i
  | .page => InPage s.p.e s.sp t.sp

/-- Only the parts that `w` allows differ in `t` from `s`. -/
def ChangesOnly (w : Part → Bool) (s t : State) : Prop := ∀ q : Part, w q = true ∨ q.Same s t

/-- Only the flags that `w` allows differ in `p'` from `p`; of N, Z and C nothing is said. -/
structure FlagsChangeOnly (w : Part → Bool) (p p' : Flags) : Prop where
  v : w .v = true ∨ p'.v = p.v
  e : w .e = true ∨ p'.e = p.e
  d : w .d = true ∨ p'.d = p.d
  i : w .i = true ∨ p'.i = p.i

variable {w : Part → Bool} {s t u : State}

/-! ### Flags -/

theorem FlagsChangeOnly.of_eq {p p' : Flags} (hv : p'.v = p.v) (he : p'.e = p.e) (hd : p'.d = p.d) (hi : p'.i = p.i) :
    FlagsChangeOnly w p p' := ⟨.inr hv, .inr he, .inr hd, .inr hi⟩

theorem setNZ_changesOnly (v : Byte) (p : Flags) : FlagsChangeOnly w p (setNZ v p) := .of_eq rfl rfl rfl rfl

theorem decimalFlags_changesOnly (hv : w .v = true) (draw : Nat) (carry : Bool) (p : Flags) :
    FlagsChangeOnly w p (decimalFlags draw carry p) := ⟨.inl hv, .inr rfl, .inr rfl, .inr rfl⟩

/-- ADC writes no flag but N, V, Z, C, in binary and in decimal mode (R160, R168). -/
theorem adcByte_changesOnly (hv : w .v = true) (draw : Nat) (a m : Byte) (p : Flags) :
    FlagsChangeOnly w p (adcByte draw a m p).2 := by
  unfold adcByte adcDecimal
  split
  · split
    · exact decimalFlags_changesOnly hv ..
    · exact decimalFlags_changesOnly hv ..
  · exact ⟨.inl hv, .inr rfl, .inr rfl, .inr rfl⟩

/-- SBC writes no flag but N, V, Z, C, in binary and in decimal mode (R161, R168). -/
theorem sbcByte_changesOnly (hv : w .v = true) (draw : Nat) (a m : Byte) (p : Flags) :
    FlagsChangeOnly w p (sbcByte draw a m p).2 := by
  unfold sbcByte sbcDecimal
  split
  · split
    · exact decimalFlags_changesOnly hv ..
    · exact decimalFlags_changesOnly hv ..
  · exact ⟨.inl hv, .inr rfl, .inr rfl, .inr rfl⟩

theorem compareFlags_changesOnly (r m : Byte) (p : Flags) : FlagsChangeOnly w p (compareFlags r m p) :=
  .of_eq rfl rfl rfl rfl

theorem bitImmFlags_changesOnly (a m : Byte) (p : Flags) : FlagsChangeOnly w p (bitImmFlags a m p) :=
  .of_eq rfl rfl rfl rfl

/-- BIT with a memory operand copies bit 6 to V (R233). -/
theorem bitMemFlags_changesOnly (hv : w .v = true) (a m : Byte) (p : Flags) :
    FlagsChangeOnly w p (bitMemFlags a m p) := ⟨.inl hv, .inr rfl, .inr rfl, .inr rfl⟩

/-- A pulled status byte writes every flag but E (R29). -/
theorem unpackP_changesOnly (hv : w .v = true) (hd : w .d = true) (hi : w .i = true) (b : Byte) (p : Flags) :
    FlagsChangeOnly w p (unpackP b p) := ⟨.inl hv, .inr rfl, .inl hd, .inl hi⟩

/-! ### Each write, after other writes -/

theorem ChangesOnly.refl : ChangesOnly w s s
  | .page => .inr .refl
  | .a | .x | .y | .z | .b | .v | .e | .d | .i => .inr rfl

theorem ChangesOnly.setA (hw : w .a = true) (v : Byte) (h : ChangesOnly w s t) : ChangesOnly w s (t.setA v)
  | .a => .inl hw
  | .x | .y | .z | .b | .v | .e | .d | .i | .page => h _

theorem ChangesOnly.setX (hw : w .x = true) (v : Byte) (h : ChangesOnly w s t) : ChangesOnly w s (t.setX v)
  | .x => .inl hw
  | .a | .y | .z | .b | .v | .e | .d | .i | .page => h _

theorem ChangesOnly.setY (hw : w .y = true) (v : Byte) (h : ChangesOnly w s t) : ChangesOnly w s (t.setY v)
  | .y => .inl hw
  | .a | .x | .z | .b | .v | .e | .d | .i | .page => h _

theorem ChangesOnly.setZ (hw : w .z = true) (v : Byte) (h : ChangesOnly w s t) : ChangesOnly w s (t.setZ v)
  | .z => .inl hw
  | .a | .x | .y | .b | .v | .e | .d | .i | .page => h _

theorem ChangesOnly.setB (hw : w .b = true) (v : Byte) (h : ChangesOnly w s t) : ChangesOnly w s (t.setB v)
  | .b => .inl hw
  | .a | .x | .y | .z | .v | .e | .d | .i | .page => h _

theorem ChangesOnly.setSp {v : Word} (hv : w .page = true ∨ InPage s.p.e s.sp v) (h : ChangesOnly w s t) :
    ChangesOnly w s (t.setSp v)
  | .page => hv
  | .a | .x | .y | .z | .b | .v | .e | .d | .i => h _

theorem ChangesOnly.setP {p : Flags} (hp : FlagsChangeOnly w s.p p) (h : ChangesOnly w s t) :
    ChangesOnly w s (t.setP p)
  | .v => hp.v
  | .e => hp.e
  | .d => hp.d
  | .i => hp.i
  | .a | .x | .y | .z | .b | .page => h _

theorem ChangesOnly.setPc (v : Word) (h : ChangesOnly w s t) : ChangesOnly w s (t.setPc v)
  | .a | .x | .y | .z | .b | .v | .e | .d | .i | .page => h _

theorem ChangesOnly.setMem (m : Memory) (h : ChangesOnly w s t) : ChangesOnly w s (t.setMem m)
  | .a | .x | .y | .z | .b | .v | .e | .d | .i | .page => h _

/-- The inputs up to the next boundary are none of the parts. -/
theorem ChangesOnly.nextBoundary (h : ChangesOnly w s t) : ChangesOnly w s (nextBoundary t) := fun q => by
  cases q <;> simpa only [Part.Same, nextBoundary_a, nextBoundary_x, nextBoundary_y, nextBoundary_z, nextBoundary_b,
    nextBoundary_p, nextBoundary_sp] using h _

/-! ### The shared operations -/

theorem push_changesOnly {v : Byte} (h : push v s = .ok t) : ChangesOnly w s t := by
  obtain ⟨-, rfl⟩ := push_eq_ok.1 h
  exact .setSp (.inr InPage.refl.dec) (.setMem _ .refl)

theorem pushReturn_changesOnly (h : pushReturn s = .ok t) : ChangesOnly w s t := by
  obtain ⟨-, -, rfl⟩ := pushWord_eq_ok.1 h
  exact .setSp (.inr InPage.refl.dec.dec) (.setMem _ .refl)

theorem pushOperandWord_changesOnly {v : Word} (h : pushOperandWord v s = .ok t) : ChangesOnly w s t := by
  obtain ⟨-, -, rfl⟩ := pushOperandWord_eq_ok.1 h
  exact .setSp (.inr InPage.refl.dec.dec) (.setMem _ .refl)

/-- A trap entry counts S down in its width and writes the flags I and D (R266). -/
theorem trapEntry_changesOnly (hd : w .d = true) (hi : w .i = true) {vec ret : Word} {brk : Bool}
    (h : trapEntry vec ret brk s = .ok t) : ChangesOnly w s t := by
  obtain ⟨-, -, -, -, -, rfl⟩ := trapEntry_eq_ok.1 h
  exact .setPc _ (.setP ⟨.inr rfl, .inr rfl, .inl hd, .inl hi⟩
    (.setSp (.inr InPage.refl.dec.dec.dec) (.setMem _ .refl)))

/-- RTI counts S up in its width and writes every flag but E (R135). -/
theorem trapReturn_changesOnly (hv : w .v = true) (hd : w .d = true) (hi : w .i = true) (h : trapReturn s = .ok t) :
    ChangesOnly w s t := by
  obtain ⟨-, -, -, rfl⟩ := trapReturn_eq_ok.1 h
  exact .setPc _ (.setSp (.inr InPage.refl.inc.inc.inc) (.setP (unpackP_changesOnly hv hd hi _ _) .refl))

/-- Stated from a state `u` on the way, because the calls jump after their pushes. -/
theorem jumpThrough_changesOnly {q : Word} (hu : ChangesOnly w s u) (h : jumpThrough q u = .ok t) :
    ChangesOnly w s t := by
  obtain ⟨-, -, rfl⟩ := jumpThrough_eq_ok.1 h
  exact hu.setPc _

theorem branchBit_changesOnly {n : Nat} {want : Bool} {a r : Byte} (h : branchBit n want a r s = .ok t) :
    ChangesOnly w s t := by
  obtain ⟨-, rfl⟩ := branchBit_eq_ok.1 h
  exact .setPc _ .refl

theorem returnSub_changesOnly (h : returnSub s = .ok t) : ChangesOnly w s t := by
  obtain ⟨-, -, rfl⟩ := returnSub_eq_ok.1 h
  exact .setPc _ (.setSp (.inr InPage.refl.inc.inc) .refl)

/-- RTN adds its operand to S in the width that E selects (R134). -/
theorem returnAdjust_changesOnly {d : Byte} (h : returnAdjust d s = .ok t) : ChangesOnly w s t := by
  obtain ⟨-, -, rfl⟩ := returnAdjust_eq_ok.1 h
  exact .setPc _ (.setSp (.inr (((InPage.refl.add _).inc.inc).add _)) .refl)

/-! ### The shapes of instruction -/

section
variable {set : Byte → State → State} (hset : ∀ {u} v, ChangesOnly w s u → ChangesOnly w s (set v u))
include hset

theorem load_changesOnly {o : Source} (h : load set o s = .ok t) : ChangesOnly w s t := by
  obtain ⟨v, -, rfl⟩ := load_eq_ok.1 h
  exact .setP (setNZ_changesOnly v s.p) (hset v .refl)

theorem pullReg_changesOnly (h : pullReg set s = .ok t) : ChangesOnly w s t := by
  obtain ⟨-, rfl⟩ := pullReg_eq_ok.1 h
  exact .setP (setNZ_changesOnly _ s.p) (hset _ (.setSp (.inr InPage.refl.inc) .refl))

theorem transfer_changesOnly {v : Byte} (h : transfer v set s = .ok t) : ChangesOnly w s t := by
  obtain rfl := Except.ok.inj h
  exact .setP (setNZ_changesOnly v s.p) (hset v .refl)

theorem modifyReg_changesOnly {f : Byte → Flags → Byte × Flags} (hf : ∀ m p, FlagsChangeOnly w p (f m p).2)
    {reg : Byte} (h : modifyReg f reg set s = .ok t) : ChangesOnly w s t := by
  obtain rfl := Except.ok.inj h
  exact .setP (hf reg s.p) (hset _ .refl)

end

theorem store_changesOnly {v : Byte} {m : Mode} (h : store v m s = .ok t) : ChangesOnly w s t := by
  obtain ⟨ea, -, -, rfl⟩ := store_eq_ok.1 h
  exact .setMem _ .refl

theorem accumulate_changesOnly (ha : w .a = true) {f : Byte → Byte → Flags → Byte × Flags}
    (hf : ∀ a m p, FlagsChangeOnly w p (f a m p).2) {o : Source} (h : accumulate f o s = .ok t) :
    ChangesOnly w s t := by
  obtain ⟨m, -, rfl⟩ := accumulate_eq_ok.1 h
  exact .setP (hf s.a m s.p) (.setA ha _ .refl)

theorem testOperand_changesOnly {f : Byte → Byte → Flags → Flags} (hf : ∀ r m p, FlagsChangeOnly w p (f r m p))
    {reg : Byte} {o : Source} (h : testOperand f reg o s = .ok t) : ChangesOnly w s t := by
  obtain ⟨m, -, rfl⟩ := testOperand_eq_ok.1 h
  exact .setP (hf reg m s.p) .refl

section
variable {f : Byte → Flags → Byte × Flags} (hf : ∀ m p, FlagsChangeOnly w p (f m p).2)
include hf

theorem modify_acc_changesOnly (ha : w .a = true) (h : modify f .acc s = .ok t) : ChangesOnly w s t := by
  obtain rfl := Except.ok.inj h
  exact .setP (hf s.a s.p) (.setA ha _ .refl)

theorem modify_mem_changesOnly {m : Mode} (h : modify f (.mem m) s = .ok t) : ChangesOnly w s t := by
  obtain ⟨ea, -, -, rfl⟩ := modify_mem_eq_ok.1 h
  exact .setP (hf _ s.p) (.setMem _ .refl)

end

theorem modifyWord_changesOnly {f : Word → Flags → Word × Flags} (hf : ∀ m p, FlagsChangeOnly w p (f m p).2)
    {lo hi : Word} (h : modifyWord f lo hi s = .ok t) : ChangesOnly w s t := by
  obtain ⟨-, -, u, hu, rfl⟩ := modifyWord_eq_ok.1 h
  obtain ⟨-, -, rfl⟩ := writeWord_eq_ok.1 hu
  exact .setP (hf _ s.p) (.setMem _ .refl)

/-! ### How an instruction ends -/

theorem advance_changesOnly {len : Word} {r : Res State} (h : advance len r = .next t)
    (hr : ∀ {u}, r = .ok u → ChangesOnly w s u) : ChangesOnly w s t := by
  obtain ⟨u, hu, rfl⟩ := advance_eq_next.1 h
  exact (hr hu).setPc _

theorem outcome_changesOnly {r : Res State} (h : outcome r = .next t) (hr : ∀ {u}, r = .ok u → ChangesOnly w s u) :
    ChangesOnly w s t :=
  hr (outcome_eq_next.1 h)

theorem advance_ok_changesOnly {len : Word} (h : advance len (.ok u) = .next t) (hu : ChangesOnly w s u) :
    ChangesOnly w s t :=
  advance_changesOnly h (fun hr => Except.ok.inj hr ▸ hu)

theorem next_setPc_changesOnly {v : Word} (h : (.next (s.setPc v) : Result) = .next t) : ChangesOnly w s t := by
  obtain rfl := Host.Outcome.next.inj h
  exact .setPc v .refl

/-- A call: the return address is pushed, then `k` goes on. -/
theorem pushReturn_bind_changesOnly {k : State → Res State}
    (hk : ∀ {u v}, ChangesOnly w s u → k u = .ok v → ChangesOnly w s v)
    (h : outcome (pushReturn s >>= k) = .next t) : ChangesOnly w s t := by
  obtain ⟨u, hu, ht⟩ := bind_eq_ok.1 (outcome_eq_next.1 h)
  exact hk (pushReturn_changesOnly hu) ht

theorem ok_setPc_changesOnly {v : Word} (hu : ChangesOnly w s u) (h : (pure (u.setPc v) : Res State) = .ok t) :
    ChangesOnly w s t := by
  obtain rfl := Except.ok.inj h
  exact hu.setPc v

theorem execPlp_changesOnly (hv : w .v = true) (hd : w .d = true) (hi : w .i = true) (h : execPlp s = .next t) :
    ChangesOnly w s t := by
  refine advance_changesOnly h (fun {u} hu => ?_)
  obtain ⟨⟨v, s1⟩, hpull, hset⟩ := bind_eq_ok.1 hu
  obtain ⟨-, -, rfl⟩ := pull_eq_ok.1 hpull
  obtain rfl := Except.ok.inj hset
  exact .setP (unpackP_changesOnly hv hd hi v s.p) (.setSp (.inr InPage.refl.inc) .refl)

theorem execPhwAbs_changesOnly {a : Word} (h : execPhwAbs a s = .next t) : ChangesOnly w s t := by
  refine advance_changesOnly h (fun {u} hu => ?_)
  obtain ⟨v, -, hpush⟩ := bind_eq_ok.1 hu
  exact pushOperandWord_changesOnly hpush

/-! ### Every instruction -/

/-- The parts that an opcode may write. -/
def writtenBy (op : Byte) (q : Part) : Bool := q.writers.contains op

/-- Every instruction changes only the parts that list its opcode: one case for each shape of instruction, where each
`rfl` of a permission looks the opcode up in the part's list. -/
theorem exec_changesOnly {i : Instr} (h : exec i s = .next t) : ChangesOnly (writtenBy (opcodeOf i)) s t := by
  unfold exec at h
  cases i with
  | oraIndX | oraBp | oraImm | oraAbs | oraIndY | oraIndZ | oraBpX | oraAbsY | oraAbsX
  | andIndX | andBp | andImm | andAbs | andIndY | andIndZ | andBpX | andAbsY | andAbsX
  | eorIndX | eorBp | eorImm | eorAbs | eorIndY | eorIndZ | eorBpX | eorAbsY | eorAbsX =>
    exact advance_changesOnly h (accumulate_changesOnly rfl fun _ _ _ => .of_eq rfl rfl rfl rfl)
  | adcIndX | adcBp | adcImm | adcAbs | adcIndY | adcIndZ | adcBpX | adcAbsY | adcAbsX =>
    exact advance_changesOnly h (accumulate_changesOnly rfl (adcByte_changesOnly rfl s.draws))
  | sbcIndX | sbcBp | sbcImm | sbcAbs | sbcIndY | sbcIndZ | sbcBpX | sbcAbsY | sbcAbsX =>
    exact advance_changesOnly h (accumulate_changesOnly rfl (sbcByte_changesOnly rfl s.draws))
  | bitBp | bitAbs | bitBpX | bitAbsX =>
    exact advance_changesOnly h (testOperand_changesOnly (bitMemFlags_changesOnly rfl))
  | bitImm => exact advance_changesOnly h (testOperand_changesOnly bitImmFlags_changesOnly)
  | cmpIndX | cmpBp | cmpImm | cmpAbs | cmpIndY | cmpIndZ | cmpBpX | cmpAbsY | cmpAbsX
  | cpxImm | cpxBp | cpxAbs | cpyImm | cpyBp | cpyAbs | cpzImm | cpzBp | cpzAbs =>
    exact advance_changesOnly h (testOperand_changesOnly compareFlags_changesOnly)
  | neg | aslA | lsrA | rolA | rorA | asrA | incA | decA =>
    exact advance_changesOnly h (modify_acc_changesOnly (fun _ _ => .of_eq rfl rfl rfl rfl) rfl)
  | tsbBp | tsbAbs | trbBp | trbAbs
  | aslBp | aslAbs | aslBpX | aslAbsX | lsrBp | lsrAbs | lsrBpX | lsrAbsX
  | rolBp | rolAbs | rolBpX | rolAbsX | rorBp | rorAbs | rorBpX | rorAbsX | asrBp | asrBpX
  | incBp | incAbs | incBpX | incAbsX | decBp | decAbs | decBpX | decAbsX
  | rmb0 | rmb1 | rmb2 | rmb3 | rmb4 | rmb5 | rmb6 | rmb7
  | smb0 | smb1 | smb2 | smb3 | smb4 | smb5 | smb6 | smb7 =>
    exact advance_changesOnly h (modify_mem_changesOnly fun _ _ => .of_eq rfl rfl rfl rfl)
  | inw | dew | asw | row =>
    exact advance_changesOnly h (modifyWord_changesOnly fun _ _ => .of_eq rfl rfl rfl rfl)
  | ldaIndX | ldaBp | ldaImm | ldaAbs | ldaIndY | ldaIndZ | ldaBpX | ldaAbsY | ldaAbsX | ldaSpIndY =>
    exact advance_changesOnly h (load_changesOnly (.setA rfl))
  | ldxImm | ldxBp | ldxAbs | ldxBpY | ldxAbsY => exact advance_changesOnly h (load_changesOnly (.setX rfl))
  | ldyImm | ldyBp | ldyAbs | ldyBpX | ldyAbsX => exact advance_changesOnly h (load_changesOnly (.setY rfl))
  | ldzImm | ldzAbs | ldzAbsX => exact advance_changesOnly h (load_changesOnly (.setZ rfl))
  | staIndX | staSpIndY | staBp | staAbs | staIndY | staIndZ | staBpX | staAbsY | staAbsX
  | stxBp | stxAbs | stxBpY | stxAbsY | styBp | styAbsX | styAbs | styBpX | stzBp | stzBpX | stzAbs | stzAbsX =>
    exact advance_changesOnly h store_changesOnly
  | txa | tya | tza | tba => exact advance_changesOnly h (transfer_changesOnly (.setA rfl))
  | tax | tsx => exact advance_changesOnly h (transfer_changesOnly (.setX rfl))
  | tay | tsy => exact advance_changesOnly h (transfer_changesOnly (.setY rfl))
  | taz => exact advance_changesOnly h (transfer_changesOnly (.setZ rfl))
  | tab => exact advance_ok_changesOnly h (.setB rfl _ .refl)
  | txs => exact advance_ok_changesOnly h (.setSp (.inr fun _ => hiByte_mkWord _ _) .refl)
  | tys => exact advance_ok_changesOnly h (.setSp (.inl rfl) .refl)
  | inx | dex =>
    exact advance_changesOnly h (modifyReg_changesOnly (.setX rfl) fun _ _ => .of_eq rfl rfl rfl rfl)
  | iny | dey =>
    exact advance_changesOnly h (modifyReg_changesOnly (.setY rfl) fun _ _ => .of_eq rfl rfl rfl rfl)
  | inz | dez =>
    exact advance_changesOnly h (modifyReg_changesOnly (.setZ rfl) fun _ _ => .of_eq rfl rfl rfl rfl)
  | pha | php | phx | phy | phz => exact advance_changesOnly h push_changesOnly
  | phwImmWord => exact advance_changesOnly h pushOperandWord_changesOnly
  | phwAbs => exact execPhwAbs_changesOnly h
  | pla => exact advance_changesOnly h (pullReg_changesOnly (.setA rfl))
  | plx => exact advance_changesOnly h (pullReg_changesOnly (.setX rfl))
  | ply => exact advance_changesOnly h (pullReg_changesOnly (.setY rfl))
  | plz => exact advance_changesOnly h (pullReg_changesOnly (.setZ rfl))
  | plp => exact execPlp_changesOnly rfl rfl rfl h
  | clc | sec => exact advance_ok_changesOnly h (.setP (.of_eq rfl rfl rfl rfl) .refl)
  | clv => exact advance_ok_changesOnly h (.setP ⟨.inl rfl, .inr rfl, .inr rfl, .inr rfl⟩ .refl)
  | cle | see => exact advance_ok_changesOnly h (.setP ⟨.inr rfl, .inl rfl, .inr rfl, .inr rfl⟩ .refl)
  | cld | sed => exact advance_ok_changesOnly h (.setP ⟨.inr rfl, .inr rfl, .inl rfl, .inr rfl⟩ .refl)
  | cli | sei => exact advance_ok_changesOnly h (.setP ⟨.inr rfl, .inr rfl, .inr rfl, .inl rfl⟩ .refl)
  | nop | aug => exact advance_ok_changesOnly h .refl
  | bplR8 | bmiR8 | bvcR8 | bvsR8 | bccR8 | bcsR8 | bneR8 | beqR8 | braR8
  | bplR16 | bmiR16 | bvcR16 | bvsR16 | bccR16 | bcsR16 | bneR16 | beqR16 | braR16 | jmpAbs =>
    exact next_setPc_changesOnly h
  | bbr0 | bbr1 | bbr2 | bbr3 | bbr4 | bbr5 | bbr6 | bbr7 | bbs0 | bbs1 | bbs2 | bbs3 | bbs4 | bbs5 | bbs6 | bbs7 =>
    exact outcome_changesOnly h branchBit_changesOnly
  | jmpAbsInd | jmpAbsXInd => exact outcome_changesOnly h (jumpThrough_changesOnly .refl)
  | jsrAbs | bsr => exact pushReturn_bind_changesOnly ok_setPc_changesOnly h
  | jsrAbsInd | jsrAbsXInd => exact pushReturn_bind_changesOnly jumpThrough_changesOnly h
  | rts => exact outcome_changesOnly h returnSub_changesOnly
  | rtn => exact outcome_changesOnly h returnAdjust_changesOnly
  | rti => exact outcome_changesOnly h (trapReturn_changesOnly rfl rfl rfl)
  | brk => exact outcome_changesOnly h (trapEntry_changesOnly rfl rfl)

/-! ### Every boundary -/

/-- The parts that an IRQ or NMI entry may write (R266). -/
def writtenByTrap : Part → Bool
  | .d | .i => true
  | .a | .x | .y | .z | .b | .v | .e | .page => false

/-- The parts that may change at the boundary: all by a reset, the trap's by an interrupt, the opcode's by the
instruction at PC. -/
def writtenAt (s : State) : Part → Bool :=
  match acceptedEvent s with
  | .reset => fun _ => true
  | .nmi => writtenByTrap
  | .irq => writtenByTrap
  | .instruction => writtenBy (s.mem.read s.pc.toNat)

theorem act_changesOnly (h : act s = .next t) : ChangesOnly (writtenAt s) s t := by
  unfold writtenAt
  rcases act_cases h with ⟨he, h⟩ | ⟨he, h⟩ | ⟨he, h⟩ | ⟨he, i, hf, h⟩ <;> rw [he]
  · exact fun _ => .inl rfl
  · exact trapEntry_changesOnly (s := { s with nmiPending := false }) rfl rfl h
  · exact trapEntry_changesOnly rfl rfl h
  · rw [← opcodeOf_of_fetchInstr hf]
    exact exec_changesOnly h

theorem step_changesOnly (h : step s = .next t) : ChangesOnly (writtenAt s) s t := by
  obtain ⟨u, hu, rfl⟩ := step_eq_next.1 h
  exact (act_changesOnly hu).nextBoundary

/-- After a step a part is as before, unless the boundary accepted an event or executed one of the part's writers. -/
theorem same_or_event_or_writer (h : step s = .next t) (q : Part) :
    q.Same s t ∨ acceptedEvent s ≠ .instruction ∨ ExecutesOneOf s q.writers := by
  rcases step_changesOnly h q with hw | hq
  · refine .inr ?_
    by_cases he : acceptedEvent s = .instruction
    · simp only [writtenAt, he, writtenBy, List.contains_iff_mem] at hw
      exact .inr ⟨he, hw⟩
    · exact .inl he
  · exact .inl hq

/-- For the parts that no interrupt writes, the event can only be a reset. -/
theorem same_or_reset_or_writer (h : step s = .next t) (q : Part) (hq : writtenByTrap q = false) :
    q.Same s t ∨ acceptedEvent s = .reset ∨ ExecutesOneOf s q.writers := by
  rcases step_changesOnly h q with hw | hsame
  · refine .inr ?_
    cases he : acceptedEvent s with
    | reset => exact .inl rfl
    | nmi => simp [writtenAt, he, hq] at hw
    | irq => simp [writtenAt, he, hq] at hw
    | instruction =>
      simp only [writtenAt, he, writtenBy, List.contains_iff_mem] at hw
      exact .inr ⟨he, hw⟩
  · exact .inl hsame

/-! ### The statements of 10_state.md -/

/-- Settles O17: the opcode lists of the statement are the writers of the five registers, and no trap writes these. -/
theorem registersWrittenOnlyAsListed : Obligations.RegistersWrittenOnlyAsListed :=
  fun _ _ h => ⟨same_or_reset_or_writer h .a rfl, same_or_reset_or_writer h .x rfl, same_or_reset_or_writer h .y rfl,
    same_or_reset_or_writer h .z rfl, same_or_reset_or_writer h .b rfl⟩

/-- A step that executes a one-byte instruction is that instruction's meaning and the inputs up to the next boundary. -/
theorem step_of_executes_f1 {op : Byte} {i : Instr} (hi : formatOf op = .f1 i) (h : step s = .next t)
    (hop : ExecutesOneOf s [op]) : ∃ u, exec i s = .next u ∧ t = nextBoundary u := by
  obtain ⟨he, hread⟩ := hop
  obtain ⟨u, hu, rfl⟩ := step_eq_next.1 h
  obtain ⟨j, hj, hexec⟩ : ∃ j, fetchInstr s = .ok j ∧ exec j s = .next u := by simpa [he] using act_cases hu
  obtain rfl := fetchInstr_of_f1 hj (List.mem_singleton.1 hread) hi
  exact ⟨u, hexec, rfl⟩

/-- A reset sets E (R33). -/
theorem step_reset_e (h : step s = .next t) (he : acceptedEvent s = .reset) : t.p.e = true := by
  obtain ⟨u, hu, rfl⟩ := step_eq_next.1 h
  have hreset : resetSequence s = .ok u := by simpa [he] using act_cases hu
  obtain ⟨-, -, rfl⟩ := resetSequence_eq_ok.1 hreset
  rw [nextBoundary_p]

/-- Settles O18: CLE, SEE and reset by what each leaves in E, every other step by E's list of writers. -/
theorem extendDisableWrittenOnlyByCleSeeReset : Obligations.ExtendDisableWrittenOnlyByCleSeeReset := by
  refine fun s t h => ⟨fun hop => ?_, fun hop => ?_, step_reset_e h, same_or_reset_or_writer h .e rfl⟩
  · obtain ⟨u, hu, rfl⟩ := step_of_executes_f1 (i := .cle) rfl h hop
    obtain rfl := Host.Outcome.next.inj hu
    rw [nextBoundary_p]; rfl
  · obtain ⟨u, hu, rfl⟩ := step_of_executes_f1 (i := .see) rfl h hop
    obtain rfl := Host.Outcome.next.inj hu
    rw [nextBoundary_p]; rfl

/-- Settles O19: V is written by no trap entry, D and I by every one. -/
theorem overflowDecimalInterruptWriters : Obligations.OverflowDecimalInterruptWriters :=
  fun _ _ h => ⟨same_or_reset_or_writer h .v rfl, same_or_event_or_writer h .d, same_or_event_or_writer h .i⟩

/-- Settles O20: TYS is the one writer of the page, which every count of S keeps while E = 1. -/
theorem eightBitStackKeepsItsPage : Obligations.EightBitStackKeepsItsPage := fun _ _ h he hreset =>
  (same_or_reset_or_writer h .page rfl).elim (fun hpage => .inl (hpage he))
    (fun hrest => .inr (hrest.resolve_left hreset))

/-- The word at VEC_RESET of the memory after reset is PC (R290). -/
theorem reset_pc :
    State.reset.pc = wordAt 0 State.reset.cfg.vecReset (State.reset.cfg.vecReset + 1#16) State.reset := by
  rw [wordAt_eq]; rfl

/-- Settles O10: the fields of the one state, and PC by `reset_pc`. -/
theorem resetStateHoldsSpecValues : Obligations.ResetStateHoldsSpecValues :=
  ⟨rfl, rfl, hiByte_mkWord 0x01#8 0x00#8, rfl, rfl, rfl, rfl, rfl, rfl, rfl, rfl, rfl, reset_pc⟩

end Sys2Proof.Machine
end

section
/-! Bytes through writes (20_memory.md R42, R43, R52): what a write leaves unchanged, what a read returns after it, and
the two writes of a word. -/

namespace Sys2Proof.Machine

open Sys2Proof.Safety

variable {s t : State}

/-! ### Bytes outside ram -/

/-- The one write that reaches memory stores in ram only (R43). -/
theorem Write.read_of_not_ram (h : Write s t) {a : Word} (ha : kindAt s a ≠ .ram) :
    t.mem.read a.toNat = s.mem.read a.toNat := by
  cases h with
  | mem addr v =>
    rw [State.setMem_mem, storedMem_read, if_neg]
    rintro ⟨haddr, hram⟩
    obtain rfl : a = addr := BitVec.eq_of_toNat_eq haddr
    exact ha hram
  | _ => rfl

theorem Writes.read_of_not_ram (h : Writes s t) {a : Word} (ha : kindAt s a ≠ .ram) :
    t.mem.read a.toNat = s.mem.read a.toNat := by
  induction h with
  | refl => rfl
  | tail hprev hw ih =>
    rw [← kindAt_congr hprev.cfg_eq] at ha
    exact (hw.read_of_not_ram ha).trans ih

/-- Settles O14: every step is a series of writes, and each of them leaves the bytes outside ram. -/
theorem stepKeepsBytesOutsideRam : Obligations.StepKeepsBytesOutsideRam := by
  intro s t h a ha
  obtain ⟨u, hu, rfl⟩ := step_eq_next.1 h
  rw [nextBoundary_mem]
  rcases act_writes hu with hw | hw
  · exact hw.read_of_not_ram ha
  · exact hw.read_of_not_ram (s := { s with nmiPending := false }) ha

/-! ### A read after a write -/

/-- Of the memory, a read sees the byte at its own address only. -/
theorem memRead_setMem {m : Memory} {b : Word} (h : m.read b.toNat = s.mem.read b.toNat) (k : Nat) :
    memRead k b (s.setMem m) = memRead k b s := by
  unfold memRead peek
  rw [kindAt_setMem, State.setMem_mem, State.setMem_draws, h]

theorem peek_of_ram {a : Word} (h : kindAt s a = .ram) (k : Nat) : peek k a s = s.mem.read a.toNat := by
  simp [peek, h]

/-- A byte stored in ram is read back. -/
theorem memRead_storedMem_of_ram {a : Word} (h : kindAt s a = .ram) (v : Byte) (k : Nat) :
    memRead k a (s.setMem (storedMem s a v)) = .ok v := by
  have hram : kindAt (s.setMem (storedMem s a v)) a = .ram := h
  rw [memRead_of_accessible (by simp [hram]), peek_of_ram hram, State.setMem_mem, storedMem_read, if_pos ⟨rfl, h⟩]

/-- Settles O25: a write is `storedMem`, which changes the byte at its address where that is ram, and no other. -/
theorem readAfterWrite : Obligations.ReadAfterWrite := by
  intro s t a b v k h
  obtain ⟨-, rfl⟩ := memWrite_eq_ok.1 h
  refine ⟨fun hram => memRead_storedMem_of_ram hram v k, fun hne => memRead_setMem ?_ k,
    fun hram => memRead_setMem ?_ k, rfl⟩
  · rw [storedMem_read, if_neg (fun h => hne (BitVec.eq_of_toNat_eq h.1))]
  · rw [storedMem_read, if_neg (fun h => hram h.2)]

/-! ### The two writes of a word -/

/-- What is stored determines every byte of the memory. -/
theorem read_eq_of_stored {cells : List (Word × Byte)} {m n : Memory} (hm : Stored s cells m) (hn : Stored s cells n)
    (k : Nat) : m.read k = n.read k := by
  by_cases hk : ∃ c ∈ cells, c.1.toNat = k
  · obtain ⟨c, hc, rfl⟩ := hk
    rw [hm.2 c hc, hn.2 c hc]
  · have hfree : ∀ c ∈ cells, c.1.toNat ≠ k := fun c hc hck => hk ⟨c, hc, hck⟩
    rw [hm.1 k hfree, hn.1 k hfree]

/-- Settles O26: both orders store the same two bytes, and a canonical memory is determined by its bytes. -/
theorem wordWriteOrderIsUnobservable : Obligations.WordWriteOrderIsUnobservable := by
  intro s t u lo hi w hwf hne ht hu
  obtain ⟨-, -, rfl⟩ := writeWord_eq_ok.1 ht
  obtain ⟨-, -, rfl⟩ := writeWord_eq_ok.1 hu
  have lowFirst : Stored s [(lo, loByte w), (hi, hiByte w)] (storedMem2 s lo (loByte w) hi (hiByte w)) :=
    stored_two s _ _ hne
  have highFirst : Stored s [(lo, loByte w), (hi, hiByte w)] (storedMem2 s hi (hiByte w) lo (loByte w)) :=
    stored_swap (stored_two s _ _ hne.symm)
  exact ⟨Memory.eq_of_wf (storedMem2_wf hwf _ _ _ _) (storedMem2_wf hwf _ _ _ _) (read_eq_of_stored lowFirst highFirst),
    lowFirst⟩

end Sys2Proof.Machine
end

section
/-! Where the pointer of an indirect operand form lies and what is added to it (30_encoding.md R91 to R94, 20_memory.md
R47): the sums of the operations, in bits, as the sums of the statements, in numbers. -/

namespace Sys2Proof.Machine

open Sys2Proof.Safety

variable {s : State}

theorem add_zext16_eq_ofNat (w : Word) (v : Byte) : w + zext16 v = BitVec.ofNat 16 (w.toNat + v.toNat) := by
  apply BitVec.eq_of_toNat_eq
  rw [BitVec.toNat_add, zext16_toNat, BitVec.toNat_ofNat]

/-- The byte after `off` in page B: the count wraps inside the page (R47). -/
theorem basePage_succ_eq (off : Byte) (s : State) :
    basePage (off + 1#8) s = BitVec.ofNat 16 (s.b.toNat * 256 + (off.toNat + 1) % 256) := by
  rw [basePage_eq, BitVec.toNat_add]; rfl

/-- The byte after the stack pointer plus `d` (R94). -/
theorem add_zext16_succ_eq_ofNat (w : Word) (d : Byte) :
    w + zext16 d + 1#16 = BitVec.ofNat 16 (w.toNat + d.toNat + 1) := by
  rw [add_zext16_eq_ofNat]
  exact (BitVec.ofNat_add (w.toNat + d.toNat) 1).symm

/-- A pointer in the base page, where both of its bytes can be read. -/
theorem read16bp_of_accessible {off : Byte} (hlo : Accessible s (basePage off s))
    (hhi : Accessible s (basePage (off + 1#8) s)) (k : Nat) :
    read16bp k off s = .ok (wordAt k (basePage off s) (basePage (off + 1#8) s) s) :=
  read16bp_eq_ok.2 ⟨hlo, hhi, wordAt_eq ..⟩

theorem read16_of_accessible {a : Word} (hlo : Accessible s a) (hhi : Accessible s (a + 1#16)) (k : Nat) :
    read16 k a s = .ok (wordAt k a (a + 1#16) s) :=
  read16_eq_ok.2 ⟨hlo, hhi, wordAt_eq ..⟩

/-- Settles O24: the pointer is the word that `read16bp` or `read16` answers, and the index is added to it. -/
theorem indirectAddressingModes : Obligations.IndirectAddressingModes := by
  intro s pageWord readable word
  have pageWord_eq (off : Byte) : pageWord off = (basePage off s, basePage (off + 1#8) s) := by
    rw [basePage_succ_eq, basePage_eq]
  have pointer (off : Byte) (h : readable (pageWord off)) : read16bp 0 off s = .ok (word (pageWord off)) := by
    rw [pageWord_eq] at h ⊢
    exact read16bp_of_accessible h.1 h.2 0
  refine ⟨fun a => pointer (a + s.x), fun a => ?_, fun d => ?_⟩
  · intro q h
    constructor <;> rw [effectiveAddress, pointer a h, ok_bind, pure_eq_ok, add_zext16_eq_ofNat]
  · rw [← add_zext16_eq_ofNat, ← add_zext16_succ_eq_ofNat]
    intro q h
    rw [effectiveAddress, read16_of_accessible h.1 h.2, ok_bind, pure_eq_ok, add_zext16_eq_ofNat]

end Sys2Proof.Machine
end

section
/-! Refused accesses (20_memory.md R43, U7, U10): for each operation the addresses it accesses, in their order. An
operation is refused at the first of them that lies in a device, and answers where none does. -/

namespace Sys2Proof.Machine

open Sys2Proof.Safety

variable {α β : Type} {s t : State}

/-- `x` accesses the addresses `l` in their order: it is refused under the name of the first one in a device, and
answers where none is (R43, U7). -/
structure Accesses (s : State) (l : List Word) (x : Res α) : Prop where
  refused : ∀ d, firstDevice s l = some d → x = .error (.deviceAccess d)
  answers : firstDevice s l = none → ∃ v, x = .ok v

/-! ### Accesses one after another -/

theorem firstDevice_append (s : State) (l l' : List Word) :
    firstDevice s (l ++ l') = (firstDevice s l).or (firstDevice s l') :=
  List.find?_append

/-- What is refused depends on the memory map alone. -/
theorem Accesses.of_cfg_eq {l : List Word} {x : Res α} (h : Accesses t l x) (hcfg : t.cfg = s.cfg) :
    Accesses s l x := by
  have hfirst : firstDevice t l = firstDevice s l := by simp only [firstDevice, kindAt_congr hcfg]
  exact ⟨hfirst ▸ h.refused, hfirst ▸ h.answers⟩

theorem Accesses.bind {l l' : List Word} {x : Res α} {f : α → Res β} (hx : Accesses s l x)
    (hf : ∀ v, x = .ok v → Accesses s l' (f v)) : Accesses s (l ++ l') (x >>= f) := by
  cases hl : firstDevice s l with
  | some d =>
    obtain rfl := hx.refused d hl
    constructor <;> simp [firstDevice_append, hl]
  | none =>
    obtain ⟨v, rfl⟩ := hx.answers hl
    obtain ⟨hrefused, hanswers⟩ := hf v rfl
    constructor <;> simpa [firstDevice_append, hl]

/-- After the accesses nothing can be refused any more. -/
theorem Accesses.bind_ok {l : List Word} {x : Res α} {f : α → Res β} (hx : Accesses s l x)
    (hf : ∀ v, x = .ok v → ∃ w, f v = .ok w) : Accesses s l (x >>= f) := by
  refine List.append_nil l ▸ hx.bind (l' := []) (fun v hv => ?_)
  obtain ⟨w, hw⟩ := hf v hv
  exact ⟨fun d hd => by simp at hd, fun _ => ⟨w, hw⟩⟩

/-- An instruction that ends by moving PC past itself is refused where its accesses are. -/
theorem Accesses.advance_refused {l : List Word} {r : Res State} (h : Accesses s l r) (len : Word) :
    ∀ d, firstDevice s l = some d → advance len r = .refused (.deviceAccess d) := by
  intro d hd
  rw [h.refused d hd]; rfl

theorem Accesses.outcome_refused {l : List Word} {r : Res State} (h : Accesses s l r) :
    ∀ d, firstDevice s l = some d → outcome r = .refused (.deviceAccess d) := by
  intro d hd
  rw [h.refused d hd]; rfl

/-! ### Memory -/

theorem memRead_accesses (k : Nat) (a : Word) (s : State) : Accesses s [a] (memRead k a s) := by
  by_cases h : kindAt s a = .device
  · constructor <;> simp [h, memRead_of_device]
  · constructor <;> simp [h, memRead_of_accessible]

theorem memWrite_accesses (a : Word) (v : Byte) (s : State) : Accesses s [a] (memWrite a v s) := by
  by_cases h : kindAt s a = .device
  · constructor <;> simp [h, memWrite_of_device]
  · constructor <;> simp [h, memWrite_of_accessible]

theorem read16_accesses (k : Nat) (a : Word) (s : State) : Accesses s [a, a + 1#16] (read16 k a s) :=
  (memRead_accesses k a s).bind fun _ _ => (memRead_accesses (k + 1) (a + 1#16) s).bind_ok fun _ _ => ⟨_, rfl⟩

/-- Address `off` of page B, counted inside the page, in numbers (R44, R47). -/
def pageAddress (s : State) (off : Nat) : Word := BitVec.ofNat 16 (s.b.toNat * 256 + off % 256)

theorem basePage_eq_pageAddress (off : Byte) (s : State) : basePage off s = pageAddress s off.toNat := by
  rw [basePage_eq, pageAddress, Nat.mod_eq_of_lt off.isLt]

theorem basePage_succ_eq_pageAddress (off : Byte) (s : State) :
    basePage (off + 1#8) s = pageAddress s (off.toNat + 1) :=
  basePage_succ_eq off s

theorem read16bp_accesses (k : Nat) (off : Byte) (s : State) :
    Accesses s [pageAddress s off.toNat, pageAddress s (off.toNat + 1)] (read16bp k off s) := by
  rw [← basePage_eq_pageAddress, ← basePage_succ_eq_pageAddress]
  exact (memRead_accesses k _ s).bind fun _ _ => (memRead_accesses (k + 1) _ s).bind_ok fun _ _ => ⟨_, rfl⟩

/-- The two writes of a word are answered where both addresses can be accessed, in either order (R52). -/
theorem writeWord_answers {lo hi : Word} (hlo : kindAt s lo ≠ .device) (hhi : kindAt s hi ≠ .device) (w : Word) :
    ∃ t, writeWord lo hi w s = .ok t :=
  ⟨_, writeWord_eq_ok.2 ⟨hlo, hhi, rfl⟩⟩

/-! ### Stack -/

/-- A push writes at S and counts it down; the map and the flags stay. -/
theorem push_moves {v : Byte} (h : push v s = .ok t) : t.cfg = s.cfg ∧ t.p = s.p ∧ t.sp = spDown s.p.e s.sp := by
  obtain ⟨-, rfl⟩ := push_eq_ok.1 h
  exact ⟨rfl, rfl, stackDec_eq_spDown _ _⟩

theorem push_accesses (v : Byte) (s : State) : Accesses s [s.sp] (push v s) :=
  (memWrite_accesses s.sp v s).bind_ok fun _ _ => ⟨_, rfl⟩

theorem push_push_accesses (v w : Byte) (s : State) :
    Accesses s [s.sp, spDown s.p.e s.sp] (push v s >>= push w) := by
  refine (push_accesses v s).bind fun t ht => ?_
  obtain ⟨hcfg, -, hsp⟩ := push_moves ht
  exact hsp ▸ (push_accesses w t).of_cfg_eq hcfg

theorem pushWord_moves {w : Word} (h : pushWord w s = .ok t) :
    t.cfg = s.cfg ∧ t.p = s.p ∧ t.sp = spDown s.p.e (spDown s.p.e s.sp) := by
  obtain ⟨-, -, rfl⟩ := pushWord_eq_ok.1 h
  exact ⟨rfl, rfl, by simp only [State.setSp_sp, stackDec_eq_spDown]⟩

theorem pushWord_accesses (w : Word) (s : State) : Accesses s [s.sp, spDown s.p.e s.sp] (pushWord w s) :=
  push_push_accesses _ _ s

theorem pushOperandWord_accesses (w : Word) (s : State) :
    Accesses s [s.sp, spDown s.p.e s.sp] (pushOperandWord w s) := by
  unfold pushOperandWord
  cases s.cfg.phwOrder <;> exact push_push_accesses _ _ s

/-- A pull counts S up; the map and the flags stay. -/
theorem pull_moves {k : Nat} {v : Byte} (h : pull k s = .ok (v, t)) :
    t.cfg = s.cfg ∧ t.p = s.p ∧ t.sp = spUp s.p.e s.sp 1 := by
  obtain ⟨-, -, rfl⟩ := pull_eq_ok.1 h
  exact ⟨rfl, rfl, stackInc_eq_spUp _ _⟩

theorem pull_accesses (k : Nat) (s : State) : Accesses s [spUp s.p.e s.sp 1] (pull k s) :=
  stackInc_eq_spUp s.p.e s.sp ▸ (memRead_accesses k (stackInc s.p.e s.sp) s).bind_ok fun _ _ => ⟨_, rfl⟩

theorem pullWord_accesses (k : Nat) (s : State) :
    Accesses s [spUp s.p.e s.sp 1, spUp s.p.e s.sp 2] (pullWord k s) := by
  refine (pull_accesses k s).bind fun ⟨lo, t⟩ ht => ?_
  obtain ⟨hcfg, hp, hsp⟩ := pull_moves ht
  have second := (pull_accesses (k + 1) t).of_cfg_eq hcfg
  rw [hp, hsp, spUp_spUp] at second
  exact second.bind_ok fun _ _ => ⟨_, rfl⟩

theorem returnSub_accesses (s : State) : Accesses s [spUp s.p.e s.sp 1, spUp s.p.e s.sp 2] (returnSub s) :=
  (pullWord_accesses 0 s).bind_ok fun _ _ => ⟨_, rfl⟩

/-- RTI's three bytes: the pulled status byte leaves E, so that the width of S stays (R29, R135). -/
theorem trapReturn_accesses (s : State) :
    Accesses s [spUp s.p.e s.sp 1, spUp s.p.e s.sp 2, spUp s.p.e s.sp 3] (trapReturn s) := by
  refine (pull_accesses 0 s).bind fun ⟨st, t⟩ ht => ?_
  obtain ⟨hcfg, hp, hsp⟩ := pull_moves ht
  have address := (pullWord_accesses 1 (t.setP (unpackP st t.p))).of_cfg_eq (s := s) hcfg
  have he : (t.setP (unpackP st t.p)).p.e = s.p.e := by rw [← hp]; rfl
  rw [he, State.setP_sp, hsp, spUp_spUp, spUp_spUp] at address
  exact address.bind_ok fun _ _ => ⟨_, rfl⟩

/-- A trap entry: three pushes, then the two bytes of the vector (R266). -/
theorem trapEntry_accesses (vec ret : Word) (brk : Bool) (s : State) :
    Accesses s [s.sp, spDown s.p.e s.sp, spDown s.p.e (spDown s.p.e s.sp), vec, vec + 1#16]
      (trapEntry vec ret brk s) := by
  refine (pushWord_accesses ret s).bind fun t ht => ?_
  obtain ⟨hcfg, -, hsp⟩ := pushWord_moves ht
  have status := (push_accesses (packP brk t.p) t).of_cfg_eq hcfg
  rw [hsp] at status
  refine status.bind fun u hu => ?_
  exact ((read16_accesses 0 vec (u.setP _)).of_cfg_eq ((push_moves hu).1.trans hcfg)).bind_ok fun _ _ => ⟨_, rfl⟩

theorem resetSequence_accesses (s : State) :
    Accesses s [s.cfg.vecReset, s.cfg.vecReset + 1#16] (resetSequence s) :=
  Accesses.bind_ok (Accesses.of_cfg_eq (read16_accesses 0 s.cfg.vecReset _) rfl) fun _ _ => ⟨_, rfl⟩

/-! ### The operand forms and the shapes of instruction -/

theorem effectiveAddress_indX_accesses (a : Byte) (s : State) :
    Accesses s [pageAddress s (a + s.x).toNat, pageAddress s ((a + s.x).toNat + 1)] (effectiveAddress (.indX a) s) :=
  read16bp_accesses 0 (a + s.x) s

theorem effectiveAddress_indY_accesses (a : Byte) (s : State) :
    Accesses s [pageAddress s a.toNat, pageAddress s (a.toNat + 1)] (effectiveAddress (.indY a) s) :=
  (read16bp_accesses 0 a s).bind_ok fun _ _ => ⟨_, rfl⟩

theorem effectiveAddress_indZ_accesses (a : Byte) (s : State) :
    Accesses s [pageAddress s a.toNat, pageAddress s (a.toNat + 1)] (effectiveAddress (.indZ a) s) :=
  (read16bp_accesses 0 a s).bind_ok fun _ _ => ⟨_, rfl⟩

theorem effectiveAddress_spIndY_accesses (d : Byte) (s : State) :
    Accesses s [BitVec.ofNat 16 (s.sp.toNat + d.toNat), BitVec.ofNat 16 (s.sp.toNat + d.toNat + 1)]
      (effectiveAddress (.spIndY d) s) := by
  rw [← add_zext16_eq_ofNat, ← add_zext16_succ_eq_ofNat]
  exact (read16_accesses 0 (s.sp + zext16 d) s).bind_ok fun _ _ => ⟨_, rfl⟩

section
variable {md : Mode} {ea : Word} (hea : effectiveAddress md s = .ok ea)
include hea

theorem readSource_accesses : Accesses s [ea] (readSource (.mem md) s) := by
  rw [readSource, hea]
  exact memRead_accesses 2 ea s

theorem store_accesses (v : Byte) : Accesses s [ea] (store v md s) := by
  rw [store, hea]
  exact memWrite_accesses ea v s

/-- The byte that was read is written back, and the write is not refused where the read was not. -/
theorem modify_accesses (f : Byte → Flags → Byte × Flags) : Accesses s [ea] (modify f (.mem md) s) := by
  rw [modify, hea]
  refine (memRead_accesses 2 ea s).bind_ok fun v hv => ?_
  exact ⟨_, bind_eq_ok.2 ⟨_, memWrite_of_accessible (memRead_eq_ok.1 hv).1 _, rfl⟩⟩

theorem load_accesses (set : Byte → State → State) : Accesses s [ea] (load set (.mem md) s) :=
  (readSource_accesses hea).bind_ok fun _ _ => ⟨_, rfl⟩

end

/-- Where a pointer cannot be read, the instruction is refused as the pointer was. -/
theorem readSource_of_error {md : Mode} {r : Refusal} (h : effectiveAddress md s = .error r) :
    readSource (.mem md) s = .error r := by
  rw [readSource, h, error_bind]

theorem store_of_error {md : Mode} {r : Refusal} (h : effectiveAddress md s = .error r) (v : Byte) :
    store v md s = .error r := by
  rw [store, h, error_bind]

theorem modify_of_error {md : Mode} {r : Refusal} (h : effectiveAddress md s = .error r)
    (f : Byte → Flags → Byte × Flags) : modify f (.mem md) s = .error r := by
  rw [modify, h, error_bind]

theorem modifyWord_accesses (f : Word → Flags → Word × Flags) (lo hi : Word) (s : State) :
    Accesses s [lo, hi] (modifyWord f lo hi s) := by
  refine (memRead_accesses 2 lo s).bind fun _ hlo => (memRead_accesses 3 hi s).bind_ok fun _ hhi => ?_
  obtain ⟨t, ht⟩ := writeWord_answers (memRead_eq_ok.1 hlo).1 (memRead_eq_ok.1 hhi).1 (f (mkWord _ _) s.p).1
  exact ⟨_, bind_eq_ok.2 ⟨t, ht, rfl⟩⟩

/-- INW and DEW: the second byte inside page B (R178, R179). -/
theorem modifyWord_basePage_accesses (f : Word → Flags → Word × Flags) (a : Byte) (s : State) :
    Accesses s [pageAddress s a.toNat, pageAddress s (a.toNat + 1)]
      (modifyWord f (basePage a s) (basePage (a + 1#8) s) s) := by
  rw [← basePage_eq_pageAddress, ← basePage_succ_eq_pageAddress]
  exact modifyWord_accesses f _ _ s

theorem pullReg_accesses (set : Byte → State → State) (s : State) :
    Accesses s [spUp s.p.e s.sp 1] (pullReg set s) :=
  (pull_accesses 0 s).bind_ok fun _ _ => ⟨_, rfl⟩

theorem jumpThrough_accesses (q : Word) (s : State) : Accesses s [q, q + 1#16] (jumpThrough q s) :=
  (read16_accesses 0 q s).bind_ok fun _ _ => ⟨_, rfl⟩

/-- A call: the return address is pushed before the target is found (R131). -/
theorem pushReturn_bind_accesses {l : List Word} {k : State → Res State} (hk : ∀ t, Accesses t l (k t)) :
    Accesses s ([s.sp, spDown s.p.e s.sp] ++ l) (pushReturn s >>= k) :=
  (pushWord_accesses _ s).bind fun t ht => (hk t).of_cfg_eq (pushWord_moves ht).1

theorem pushReturn_bind_ok_accesses {g : State → State} :
    Accesses s [s.sp, spDown s.p.e s.sp] (pushReturn s >>= fun t => .ok (g t)) :=
  (pushWord_accesses _ s).bind_ok fun _ _ => ⟨_, rfl⟩

/-! ### The fetch -/

theorem fetchByte_of_device {a : Word} (h : kindAt s a = .device) : fetchByte a s = .error (.deviceAccess a) := by
  simp [fetchByte, h]

theorem fetchByte_refused (a : Word) (s : State) :
    ∀ d, firstDevice s [a] = some d → fetchByte a s = .error (.deviceAccess d) := by
  intro d hd
  obtain ⟨hdev, rfl⟩ : kindAt s a = .device ∧ a = d := by simpa using hd
  exact fetchByte_of_device hdev

theorem fetchByte_of_unmapped {a : Word} (h : kindAt s a = .unmapped) :
    fetchByte a s = .error (.unmappedFetch a) := by
  simp [fetchByte, h]

theorem fetchByte_of_ram_or_rom {a : Word} (h : kindAt s a = .ram ∨ kindAt s a = .rom) :
    fetchByte a s = .ok (s.mem.read a.toNat) := by
  rcases h with h | h <;> simp [fetchByte, h]

/-- Bytes are fetched up to the first one that is refused. -/
theorem fetchBytes_of_error {r : Refusal} {n j : Nat} {addr : Word} (hj : j < n)
    (hbefore : ∀ i < j, kindAt s (addr + BitVec.ofNat 16 i) = .ram ∨ kindAt s (addr + BitVec.ofNat 16 i) = .rom)
    (hr : fetchByte (addr + BitVec.ofNat 16 j) s = .error r) : fetchBytes n addr s = .error r := by
  induction n generalizing j addr with
  | zero => omega
  | succ n ih =>
    cases j with
    | zero =>
      rw [BitVec.add_zero] at hr
      rw [fetchBytes, hr, error_bind]
    | succ j =>
      have shift (i : Nat) : addr + 1#16 + BitVec.ofNat 16 i = addr + BitVec.ofNat 16 (i + 1) := by
        rw [BitVec.add_assoc, BitVec.ofNat_add, BitVec.add_comm 1#16]
      have rest : fetchBytes n (addr + 1#16) s = .error r :=
        ih (by omega) (fun i hi => shift i ▸ hbefore (i + 1) (by omega)) (shift j ▸ hr)
      have first := fetchByte_of_ram_or_rom (hbefore 0 (by omega))
      rw [BitVec.add_zero] at first
      rw [fetchBytes, first, ok_bind, rest, error_bind]

/-- The opcode and the bytes after it are one sequence, as long as the opcode says. -/
theorem fetchInstrBytes_eq {n : Nat} (h : fetchLength (s.mem.read s.pc.toNat) = n + 1) :
    fetchInstrBytes s = fetchBytes (n + 1) s.pc s := by
  rw [fetchInstrBytes, fetchBytes]
  cases hop : fetchByte s.pc s with
  | error r => rfl
  | ok op =>
    obtain rfl := fetchByte_eq hop
    rw [ok_bind, ok_bind, h, Nat.add_sub_cancel]

/-- A byte of the instruction at PC that cannot be fetched refuses the step. -/
theorem step_of_fetchByte_error {r : Refusal} {j : Nat} (hj : j < instrLength (s.mem.read s.pc.toNat))
    (hev : acceptedEvent s = .instruction)
    (hbefore : ∀ i < j, kindAt s (s.pc + BitVec.ofNat 16 i) = .ram ∨ kindAt s (s.pc + BitVec.ofNat 16 i) = .rom)
    (hr : fetchByte (s.pc + BitVec.ofNat 16 j) s = .error r) : step s = .refused r := by
  obtain ⟨n, hn⟩ : ∃ n, fetchLength (s.mem.read s.pc.toNat) = n + 1 := Nat.exists_eq_succ_of_ne_zero (by
    rw [fetchLength]; omega)
  have hbytes : fetchInstrBytes s = .error r := by
    rw [fetchInstrBytes_eq hn]
    exact fetchBytes_of_error (by rw [← hn]; exact hj) hbefore hr
  have hinstr : fetchInstr s = .error r := by
    rw [fetchInstr, hbytes, error_bind]
  simp only [step, act, hev, hinstr]

/-- A refused vector read refuses the step that performs the reset (R290). -/
theorem step_of_reset_refused (hreset : s.resetLine = true) {d : Word}
    (hd : firstDevice s [s.cfg.vecReset, s.cfg.vecReset + 1#16] = some d) : step s = .refused (.deviceAccess d) := by
  have hev : acceptedEvent s = .reset := by simp [acceptedEvent, hreset]
  simp only [step, act, hev, (resetSequence_accesses s).outcome_refused d hd]

/-! ### Unmapped addresses (U10) -/

theorem memWrite_of_unmapped {a : Word} (h : kindAt s a = .unmapped) (v : Byte) : memWrite a v s = .ok s := by
  simp [memWrite, h]

/-- STA to an unmapped address only moves PC. -/
theorem exec_staAbs_of_unmapped {a : Word} (h : kindAt s a = .unmapped) :
    exec (.staAbs a) s = .next { s with pc := s.pc + 3#16 } := by
  change advance 3#16 (memWrite a s.a s) = _
  rw [memWrite_of_unmapped h]; rfl

theorem setNZ_eq (v : Byte) (p : Flags) : setNZ v p = { p with n := v.getLsbD 7, z := decide (v = 0#8) } := by
  rw [setNZ, BitVec.msb_eq_getLsbD_last]; rfl

/-- LDA from an address that can be accessed loads the byte read there. -/
theorem exec_ldaAbs_of_accessible {a : Word} (h : kindAt s a ≠ .device) :
    exec (.ldaAbs a) s = .next { s with
      a := peek 2 a s
      p := { s.p with n := (peek 2 a s).getLsbD 7, z := decide (peek 2 a s = 0#8) }
      pc := s.pc + 3#16 } := by
  rw [← setNZ_eq]
  exact advance_load (readSource_mem_eq_ok.2 ⟨a, rfl, h, rfl⟩) 3#16

/-! ### The statement of 20_memory.md -/

/-- Settles O16: each operation and instruction by its list of accesses, the fetch by its first byte that is refused. -/
theorem deviceAndUnmappedRefusals : Obligations.DeviceAndUnmappedRefusals := by
  intro s refuses stops page down1 down2 up
  refine ⟨?operations, ?operandByte, ?operandRefused, ?pointer, ?instructions, ?trap, ?reset, ?fetch, ?unmapped⟩
  case operations =>
    exact fun k a v => ⟨(memRead_accesses k a s).refused, (memWrite_accesses a v s).refused, fetchByte_refused a s,
      (push_accesses v s).refused, (pull_accesses k s).refused, (read16_accesses k a s).refused,
      (read16bp_accesses k v s).refused⟩
  case operandByte =>
    exact fun md ea hea => ⟨(readSource_accesses hea).refused, fun v => (store_accesses hea v).refused,
      fun f => (modify_accesses hea f).refused⟩
  case operandRefused =>
    exact fun md r hr => ⟨readSource_of_error hr, store_of_error hr, modify_of_error hr⟩
  case pointer =>
    exact fun a => ⟨(effectiveAddress_indX_accesses a s).refused, (effectiveAddress_indY_accesses a s).refused,
      (effectiveAddress_indZ_accesses a s).refused, (effectiveAddress_spIndY_accesses a s).refused⟩
  case instructions =>
    intro a v
    have hea : effectiveAddress (.abs a) s = .ok a := rfl
    refine ⟨?ldaAbs, ?staAbs, ?incAbs, ?asw, ?row, ?inw, ?dew, ?pha, ?pla, ?plp, ?phwImmWord, ?phwAbs, ?jmpAbsInd,
      ?jsrAbs, ?jsrAbsInd, ?bsr, ?rts, ?rti, ?brk⟩
    case ldaAbs => exact (load_accesses hea State.setA).advance_refused 3#16
    case staAbs => exact (store_accesses hea s.a).advance_refused 3#16
    case incAbs => exact (modify_accesses hea incByte).advance_refused 3#16
    case asw => exact (modifyWord_accesses aslWord a (a + 1#16) s).advance_refused 3#16
    case row => exact (modifyWord_accesses rolWord a (a + 1#16) s).advance_refused 3#16
    case inw => exact (modifyWord_basePage_accesses incWord v s).advance_refused 2#16
    case dew => exact (modifyWord_basePage_accesses decWord v s).advance_refused 2#16
    case pha => exact (push_accesses s.a s).advance_refused 1#16
    case pla => exact (pullReg_accesses State.setA s).advance_refused 1#16
    case plp => exact ((pull_accesses 0 s).bind_ok fun _ _ => ⟨_, rfl⟩).advance_refused 1#16
    case phwImmWord => exact (pushOperandWord_accesses a s).advance_refused 3#16
    case phwAbs =>
      exact ((read16_accesses 2 a s).bind fun w _ => pushOperandWord_accesses w s).advance_refused 3#16
    case jmpAbsInd => exact (jumpThrough_accesses a s).outcome_refused
    case jsrAbs => exact pushReturn_bind_ok_accesses.outcome_refused
    case jsrAbsInd => exact (pushReturn_bind_accesses (jumpThrough_accesses a)).outcome_refused
    case bsr => exact pushReturn_bind_ok_accesses.outcome_refused
    case rts => exact (returnSub_accesses s).outcome_refused
    case rti => exact (trapReturn_accesses s).outcome_refused
    case brk => exact (trapEntry_accesses s.cfg.vecIrq _ true s).outcome_refused
  case trap => exact fun vec ret brk => (trapEntry_accesses vec ret brk s).refused
  case reset => exact fun hreset d => step_of_reset_refused hreset
  case fetch =>
    exact fun j hj hev hbefore => ⟨fun h => step_of_fetchByte_error hj hev hbefore (fetchByte_of_device h),
      fun h => step_of_fetchByte_error hj hev hbefore (fetchByte_of_unmapped h)⟩
  case unmapped =>
    intro k a v h
    have haccessible : kindAt s a ≠ .device := by simp [h]
    exact ⟨fetchByte_of_unmapped h, memWrite_of_unmapped h v, ⟨_, memRead_of_accessible haccessible k⟩,
      exec_staAbs_of_unmapped h, _, exec_ldaAbs_of_accessible haccessible⟩

end Sys2Proof.Machine
end

section
/-! Which bytes are the encoding of an instruction (30_encoding.md R70 to R73, R100, R101). Both directions go through
one relation: in a format, these operand bytes complete this instruction. -/

namespace Sys2Proof

open Machine (mkWord hiByte loByte decode_f1 decode_f2 decode_f3)
open Safety (Codes)

variable {op : Byte} {ops bytes rest : List Byte} {i : Instr} {f : Format}

/-- In the format, these operand bytes complete this instruction (R72, R73). -/
inductive Format.Spells : Format → List Byte → Instr → Prop where
  | f1 (i : Instr) : Spells (.f1 i) [] i
  | f2 (k : Byte → Instr) (b : Byte) : Spells (.f2 k) [b] (k b)
  | f3 (k : Word → Instr) (w : Word) : Spells (.f3 k) [loByte w, hiByte w] (k w)
  | f3b (k : Byte → Byte → Instr) (b c : Byte) : Spells (.f3b k) [b, c] (k b c)
  | f4 (k : Byte → Byte → Byte → Instr) (b c d : Byte) : Spells (.f4 k) [b, c, d] (k b c d)

/-- Any two operand bytes are the word they make. -/
theorem Format.Spells.f3_bytes (k : Word → Instr) (lo hi : Byte) :
    (Format.f3 k).Spells [lo, hi] (k (mkWord hi lo)) := by
  simpa using Spells.f3 k (mkWord hi lo)

/-! ### The decoder reads what the format of the opcode spells -/

theorem decode_f3b {k : Byte → Byte → Instr} (h : formatOf op = .f3b k) (b c : Byte) (rest : List Byte) :
    decode (op :: b :: c :: rest) = .ok (k b c, rest) := by
  simp [decode, h]

theorem decode_f4 {k : Byte → Byte → Byte → Instr} (h : formatOf op = .f4 k) (b c d : Byte) (rest : List Byte) :
    decode (op :: b :: c :: d :: rest) = .ok (k b c d, rest) := by
  simp [decode, h]

theorem decode_of_spells (h : (formatOf op).Spells ops i) (rest : List Byte) :
    decode (op :: ops ++ rest) = .ok (i, rest) := by
  generalize hf : formatOf op = f at h
  cases h with
  | f1 => exact decode_f1 hf rest
  | f2 _ b => exact decode_f2 hf b rest
  | f3 _ w => exact decode_f3 hf w rest
  | f3b _ b c => exact decode_f3b hf b c rest
  | f4 _ b c d => exact decode_f4 hf b c d rest

theorem spells_of_decode (h : decode (op :: bytes) = .ok (i, rest)) :
    ∃ ops, bytes = ops ++ rest ∧ (formatOf op).Spells ops i := by
  cases hf : formatOf op with
  | f1 j =>
    simp only [decode, hf, Except.ok.injEq, Prod.mk.injEq] at h
    obtain ⟨rfl, rfl⟩ := h
    exact ⟨[], rfl, .f1 _⟩
  | f2 k =>
    rcases bytes with _ | ⟨b, _⟩ <;> simp [decode, hf] at h
    obtain ⟨rfl, rfl⟩ := h
    exact ⟨[b], rfl, .f2 k b⟩
  | f3 k =>
    rcases bytes with _ | ⟨lo, _ | ⟨hi, _⟩⟩ <;> simp [decode, hf] at h
    obtain ⟨rfl, rfl⟩ := h
    exact ⟨[lo, hi], rfl, .f3_bytes k lo hi⟩
  | f3b k =>
    rcases bytes with _ | ⟨b, _ | ⟨c, _⟩⟩ <;> simp [decode, hf] at h
    obtain ⟨rfl, rfl⟩ := h
    exact ⟨[b, c], rfl, .f3b k b c⟩
  | f4 k =>
    rcases bytes with _ | ⟨b, _ | ⟨c, _ | ⟨d, _⟩⟩⟩ <;> simp [decode, hf] at h
    obtain ⟨rfl, rfl⟩ := h
    exact ⟨[b, c, d], rfl, .f4 k b c d⟩

/-! ### The encoder writes what the format of the opcode spells -/

/-- The operand bytes the encoder writes complete the instruction again: in each case of the syntax the opcode's entry
in the map fixes the format, and with it the rule of `Spells`. -/
theorem spells_encode (i : Instr) : (formatOf (opcodeOf i)).Spells (encode i).tail i := by
  cases i <;> constructor

/-- Operand bytes that complete an instruction are the ones the encoder writes for it: the entry in the map is a
constructor of the syntax, so the operands it completes are the instruction's own. -/
theorem encode_of_spells (h : (formatOf (opcodeOf i)).Spells ops i) : encode i = opcodeOf i :: ops := by
  cases i <;> cases h <;> rfl

theorem encode_eq (i : Instr) : encode i = opcodeOf i :: (encode i).tail :=
  encode_of_spells (spells_encode i)

theorem codes_encode (i : Instr) : Codes (encode i) i := fun rest => by
  rw [encode_eq]
  exact decode_of_spells (spells_encode i) rest

/-- Settles O1: the encoder's operand bytes complete the instruction, and what is spelled is decoded. -/
theorem decodeInvertsEncode : Obligations.DecodeInvertsEncode :=
  fun i rest _ => codes_encode i rest

/-- Settles O2: what is decoded was spelled, and only the encoder's bytes spell an instruction. -/
theorem encodeInvertsDecode : Obligations.EncodeInvertsDecode := by
  intro bs rest i h
  cases bs with
  | nil => simp [decode] at h
  | cons op bytes =>
    obtain rfl : opcodeOf i = op := opcodeOf_of_decode h
    obtain ⟨ops, rfl, hops⟩ := spells_of_decode h
    rw [encode_of_spells hops, List.cons_append]

/-! ### The length table gives the lengths of the formats (R71, R73) -/

/-- The number of bytes of a format. -/
def Format.length : Format → Nat
  | .f1 _ => 1
  | .f2 _ => 2
  | .f3 _ | .f3b _ => 3
  | .f4 _ => 4

/-- The two tables of the spec, written down apart, agree on every opcode. -/
theorem opcodeMap_length : opcodeMap.map Format.length = lengthTableLow ++ lengthTableHigh := by
  decide +kernel

theorem instrLength_eq (op : Byte) : instrLength op = (formatOf op).length := by
  rw [instrLength, ← opcodeMap_length, formatOf, List.getD_eq_getElem?_getD, List.getD_eq_getElem?_getD,
    List.getElem?_map]
  exact Option.getD_map Format.length (.f1 .nop) _

/-- As many operand bytes as the format has complete an instruction (R100). -/
theorem Format.exists_spells (h : ops.length + 1 = f.length) : ∃ i, f.Spells ops i := by
  match f, ops, h with
  | .f1 _, [], _ => exact ⟨_, .f1 _⟩
  | .f2 k, [b], _ => exact ⟨_, .f2 k b⟩
  | .f3 k, [lo, hi], _ => exact ⟨_, .f3_bytes k lo hi⟩
  | .f3b k, [b, c], _ => exact ⟨_, .f3b k b c⟩
  | .f4 k, [b, c, d], _ => exact ⟨_, .f4 k b c d⟩

/-- Settles O3: the table's length is the format's, and that many bytes spell an instruction. -/
theorem bytesOfTableLengthDecode : Obligations.BytesOfTableLengthDecode := by
  intro bs h
  cases bs with
  | nil => simp [wellFormedBytes] at h
  | cons op ops =>
    have hlength : ops.length + 1 = (formatOf op).length := by
      simpa [wellFormedBytes, instrLength_eq] using h
    obtain ⟨i, hi⟩ := Format.exists_spells hlength
    exact ⟨i, by simpa using decode_of_spells hi []⟩

/-! ### Encodings written out -/

/-- Bytes that the encoder writes for an instruction are decoded to it, whatever follows them. -/
theorem codes_of_encode {bs : List Byte} (h : encode i = bs) : Codes bs i :=
  h ▸ codes_encode i

/-- Settles O4: each sequence is what the encoder writes. -/
theorem writtenEncodingsDecode : Obligations.WrittenEncodingsDecode :=
  ⟨codes_of_encode rfl, codes_of_encode rfl, codes_of_encode rfl, codes_of_encode rfl, codes_of_encode rfl,
    codes_of_encode rfl, codes_of_encode rfl, codes_of_encode rfl, codes_of_encode rfl, codes_of_encode rfl,
    codes_of_encode rfl, codes_of_encode rfl, codes_of_encode rfl, codes_of_encode rfl, codes_of_encode rfl,
    codes_of_encode rfl⟩

end Sys2Proof
end

section
/-! Effective addresses without a pointer (30_encoding.md R84 to R87, R89, R90). -/

namespace Sys2Proof.Machine

open Sys2Proof.Safety

/-- A sum of two bytes as an offset in page B stays in page B (R86, R87). -/
theorem basePage_add_eq (off v : Byte) (s : State) :
    basePage (off + v) s = BitVec.ofNat 16 (s.b.toNat * 256 + (off.toNat + v.toNat) % 256) := by
  rw [basePage_eq, BitVec.toNat_add]

/-- Settles O23: form by form, the base-page address or the indexed word of the operation in numbers. -/
theorem directAddressingModes : Obligations.DirectAddressingModes := by
  intro s
  refine ⟨fun a => ?bp, fun a => ?bpX, fun a => ?bpY, fun a => ?abs, fun a => ?absX, fun a => ?absY⟩
  case bp => rw [effectiveAddress, basePage_eq]
  case bpX => rw [effectiveAddress, basePage_add_eq]
  case bpY => rw [effectiveAddress, basePage_add_eq]
  case abs => rfl
  case absX => rw [effectiveAddress, add_zext16_eq_ofNat]
  case absY => rw [effectiveAddress, add_zext16_eq_ofNat]

end Sys2Proof.Machine
end

section
/-! Shift and rotate (40_shift.md R121 to R127): each function of the bits as a number, then what each form answers. -/

namespace Sys2Proof.Machine

open Sys2Proof.Safety

/-! ### Shifted bits as numbers -/

theorem carryByte_eq_ofNat (c : Bool) : carryByte c = BitVec.ofNat 8 c.toNat := by
  cases c <;> rfl

theorem zext16_carryByte_eq_ofNat (c : Bool) : zext16 (carryByte c) = BitVec.ofNat 16 c.toNat := by
  cases c <;> rfl

theorem shiftLeft_one_eq_ofNat {w : Nat} (x : BitVec w) : x <<< 1 = BitVec.ofNat w (x.toNat * 2) := by
  apply BitVec.eq_of_toNat_eq
  rw [BitVec.toNat_shiftLeft, BitVec.toNat_ofNat, Nat.shiftLeft_eq, Nat.pow_one]

theorem ushiftRight_one_eq_ofNat {w : Nat} (x : BitVec w) : x >>> 1 = BitVec.ofNat w (x.toNat / 2) := by
  apply BitVec.eq_of_toNat_eq
  rw [BitVec.toNat_ushiftRight, BitVec.toNat_ofNat, Nat.shiftRight_eq_div_pow, Nat.pow_one,
    Nat.mod_eq_of_lt (Nat.lt_of_le_of_lt (Nat.div_le_self _ _) x.isLt)]

/-- A left shift leaves bit 0 free: putting a bit there is adding it. -/
theorem shiftLeft_one_or_ofNat {w : Nat} (x : BitVec w) (c : Bool) :
    x <<< 1 ||| BitVec.ofNat w c.toNat = BitVec.ofNat w (x.toNat * 2 + c.toNat) := by
  have hfree : x <<< 1 &&& BitVec.ofNat w c.toNat = 0#w := by
    cases c with
    | false => exact BitVec.and_zero
    | true =>
      have hbit0 : (x <<< 1).getLsbD 0 = false := by
        rw [BitVec.getLsbD_shiftLeft, decide_eq_true Nat.zero_lt_one, Bool.not_true, Bool.and_false, Bool.false_and]
      rw [Bool.toNat_true, BitVec.and_one_eq_setWidth_ofBool_getLsbD, hbit0]
      exact BitVec.setWidth_zero w 1
  rw [← BitVec.add_eq_or_of_and_eq_zero _ _ hfree, shiftLeft_one_eq_ofNat, BitVec.ofNat_add_ofNat]

/-- ROL's result (R123): the carry enters at bit 0. -/
theorem shiftLeft_one_or_carryByte (v : Byte) (c : Bool) :
    v <<< 1 ||| carryByte c = BitVec.ofNat 8 (v.toNat * 2 % 256 + c.toNat) := by
  rw [carryByte_eq_ofNat, shiftLeft_one_or_ofNat]
  apply BitVec.eq_of_toNat_eq
  rw [BitVec.toNat_ofNat, BitVec.toNat_ofNat]
  omega

/-- ROW's result (R127): the carry enters at bit 0. -/
theorem shiftLeft_one_or_zext16_carryByte (w : Word) (c : Bool) :
    w <<< 1 ||| zext16 (carryByte c) = BitVec.ofNat 16 (w.toNat * 2 % 65536 + c.toNat) := by
  rw [zext16_carryByte_eq_ofNat, shiftLeft_one_or_ofNat]
  apply BitVec.eq_of_toNat_eq
  rw [BitVec.toNat_ofNat, BitVec.toNat_ofNat]
  omega

/-- A right shift leaves bit 7 free: putting a bit there is adding 128 times it (R124). -/
theorem ushiftRight_one_or_carryByte (v : Byte) (c : Bool) :
    v >>> 1 ||| carryByte c <<< 7 = BitVec.ofNat 8 (v.toNat / 2 + 128 * c.toNat) := by
  have hbit : carryByte c <<< 7 = BitVec.ofNat 8 (128 * c.toNat) := by cases c <;> rfl
  have hfree : v >>> 1 &&& carryByte c <<< 7 = 0#8 := by
    cases c with
    | false => exact BitVec.and_zero
    | true =>
      have hbit7 : (v >>> 1).getLsbD 7 = false := by
        rw [BitVec.getLsbD_ushiftRight]; exact BitVec.getLsbD_of_ge v _ (Nat.le_refl 8)
      exact (BitVec.and_twoPow (v >>> 1) 7).trans (if_neg (by rw [hbit7]; exact Bool.false_ne_true))
  rw [← BitVec.add_eq_or_of_and_eq_zero _ _ hfree, hbit, ushiftRight_one_eq_ofNat, BitVec.ofNat_add_ofNat]

/-- The mask of bit 7 is that bit, put back in its place (R125). -/
theorem and_bit7_eq_carryByte (v : Byte) : v &&& 0x80#8 = carryByte (v.getLsbD 7) <<< 7 := by
  rw [show 0x80#8 = BitVec.twoPow 8 7 from rfl, BitVec.and_twoPow]
  cases v.getLsbD 7 <;> rfl

/-! ### The operations in numbers -/

theorem setNZ16_eq (w : Word) (p : Flags) : setNZ16 w p = { p with n := w.getLsbD 15, z := decide (w = 0#16) } := by
  rw [setNZ16, BitVec.msb_eq_getLsbD_last]; rfl

section
variable (v : Byte) (w : Word) (p : Flags)

theorem aslByte_eq :
    let r := BitVec.ofNat 8 (v.toNat * 2)
    aslByte v p = (r, { p with n := r.getLsbD 7, z := decide (r = 0#8), c := v.getLsbD 7 }) := by
  rw [aslByte, shiftLeft_one_eq_ofNat, setNZ_eq]

theorem lsrByte_eq :
    let r := BitVec.ofNat 8 (v.toNat / 2)
    lsrByte v p = (r, { p with n := r.getLsbD 7, z := decide (r = 0#8), c := v.getLsbD 0 }) := by
  rw [lsrByte, ushiftRight_one_eq_ofNat, setNZ_eq]

theorem rolByte_eq :
    let r := BitVec.ofNat 8 (v.toNat * 2 % 256 + p.c.toNat)
    rolByte v p = (r, { p with n := r.getLsbD 7, z := decide (r = 0#8), c := v.getLsbD 7 }) := by
  rw [rolByte, shiftLeft_one_or_carryByte, setNZ_eq]

theorem rorByte_eq :
    let r := BitVec.ofNat 8 (v.toNat / 2 + 128 * p.c.toNat)
    rorByte v p = (r, { p with n := r.getLsbD 7, z := decide (r = 0#8), c := v.getLsbD 0 }) := by
  rw [rorByte, ushiftRight_one_or_carryByte, setNZ_eq]

theorem asrByte_eq :
    let r := BitVec.ofNat 8 (v.toNat / 2 + 128 * (v.getLsbD 7).toNat)
    asrByte v p = (r, { p with n := r.getLsbD 7, z := decide (r = 0#8), c := v.getLsbD 0 }) := by
  rw [asrByte, and_bit7_eq_carryByte, ushiftRight_one_or_carryByte, setNZ_eq]

theorem aslWord_eq :
    let r := BitVec.ofNat 16 (w.toNat * 2)
    aslWord w p = (r, { p with n := r.getLsbD 15, z := decide (r = 0#16), c := w.getLsbD 15 }) := by
  rw [aslWord, shiftLeft_one_eq_ofNat, setNZ16_eq]

theorem rolWord_eq :
    let r := BitVec.ofNat 16 (w.toNat * 2 % 65536 + p.c.toNat)
    rolWord w p = (r, { p with n := r.getLsbD 15, z := decide (r = 0#16), c := w.getLsbD 15 }) := by
  rw [rolWord, shiftLeft_one_or_zext16_carryByte, setNZ16_eq]

end

/-! ### A read-modify-write instruction whose function is known in numbers -/

section
variable {s : State} {i : Instr} {len : Word}

section
variable {f : Byte → Flags → Byte × Flags} {res : Byte → Byte} {fl : Byte → Flags}

/-- On A (R81): the result and the flags, and nothing else but PC. -/
theorem exec_eq_of_modify_acc (hf : ∀ v, f v s.p = (res v, fl v)) (hexec : exec i s = advance len (modify f .acc s)) :
    exec i s = .next { s with a := res s.a, p := fl s.a, pc := s.pc + len } := by
  rw [hexec, modify_acc, hf]; rfl

/-- On a byte of memory (R99): the result at EA and the flags, and nothing else but PC. -/
theorem onPlace_of_modify {md : Mode} (hf : ∀ v, f v s.p = (res v, fl v))
    (hexec : exec i s = advance len (modify f (.mem md) s)) :
    OnPlace md s fun ea v =>
      ∃ m, Stored s [(ea, res v)] m ∧ exec i s = .next { s with mem := m, p := fl v, pc := s.pc + len } := by
  intro ea v hv
  have hmodify := advance_modify (f := f) hv len
  rwa [hf, ← hexec] at hmodify

end

/-- On a word of memory (R50, R52): both bytes of the result and the flags, and nothing else but PC. -/
theorem exec_eq_of_modifyWord {f : Word → Flags → Word × Flags} {res : Word → Word} {fl : Word → Flags} {lo hi : Word}
    (hf : ∀ w, f w s.p = (res w, fl w)) (hexec : exec i s = advance len (modifyWord f lo hi s)) (hne : lo ≠ hi)
    (hlo : Accessible s lo) (hhi : Accessible s hi) :
    let w := wordAt 2 lo hi s
    ∃ m, Stored s [(lo, loByte (res w)), (hi, hiByte (res w))] m ∧
      exec i s = .next { s with mem := m, p := fl w, pc := s.pc + len } := by
  have hmodify := advance_modifyWord (f := f) hlo hhi hne len
  rwa [hf, ← hexec] at hmodify

end

/-- The two bytes of a word lie at different addresses, at 0xFFFF too (R46). -/
theorem word_ne_add_one (a : Word) : a ≠ a + 1#16 := by bv_omega

/-! ### The statements of 40_shift.md -/

/-- Settles O40: form by form, the encoding and the shift on A or at EA. -/
theorem aslLsrResult : Obligations.AslLsrResult := by
  intro s
  have asl := fun v => aslByte_eq v s.p
  have lsr := fun v => lsrByte_eq v s.p
  refine ⟨⟨fun a => ⟨codes_of_encode rfl, ?aslBp⟩, ⟨codes_of_encode rfl, ?aslA⟩, fun a => ⟨codes_of_encode rfl, ?aslAbs⟩,
      fun a => ⟨codes_of_encode rfl, ?aslBpX⟩, fun a => ⟨codes_of_encode rfl, ?aslAbsX⟩⟩,
    ⟨fun a => ⟨codes_of_encode rfl, ?lsrBp⟩, ⟨codes_of_encode rfl, ?lsrA⟩, fun a => ⟨codes_of_encode rfl, ?lsrAbs⟩,
      fun a => ⟨codes_of_encode rfl, ?lsrBpX⟩, fun a => ⟨codes_of_encode rfl, ?lsrAbsX⟩⟩⟩
  case aslA => exact exec_eq_of_modify_acc asl rfl
  case aslBp | aslAbs | aslBpX | aslAbsX => exact onPlace_of_modify asl rfl
  case lsrA => exact exec_eq_of_modify_acc lsr rfl
  case lsrBp | lsrAbs | lsrBpX | lsrAbsX => exact onPlace_of_modify lsr rfl

/-- Settles O41: form by form, the encoding and the rotation on A or at EA. -/
theorem rolRorResult : Obligations.RolRorResult := by
  intro s
  have rol := fun v => rolByte_eq v s.p
  have ror := fun v => rorByte_eq v s.p
  refine ⟨⟨fun a => ⟨codes_of_encode rfl, ?rolBp⟩, ⟨codes_of_encode rfl, ?rolA⟩, fun a => ⟨codes_of_encode rfl, ?rolAbs⟩,
      fun a => ⟨codes_of_encode rfl, ?rolBpX⟩, fun a => ⟨codes_of_encode rfl, ?rolAbsX⟩⟩,
    ⟨fun a => ⟨codes_of_encode rfl, ?rorBp⟩, ⟨codes_of_encode rfl, ?rorA⟩, fun a => ⟨codes_of_encode rfl, ?rorAbs⟩,
      fun a => ⟨codes_of_encode rfl, ?rorBpX⟩, fun a => ⟨codes_of_encode rfl, ?rorAbsX⟩⟩⟩
  case rolA => exact exec_eq_of_modify_acc rol rfl
  case rolBp | rolAbs | rolBpX | rolAbsX => exact onPlace_of_modify rol rfl
  case rorA => exact exec_eq_of_modify_acc ror rfl
  case rorBp | rorAbs | rorBpX | rorAbsX => exact onPlace_of_modify ror rfl

/-- Settles O42: the three forms, the function being `asrByte_eq`. -/
theorem asrResult : Obligations.AsrResult := by
  intro s
  have asr := fun v => asrByte_eq v s.p
  refine ⟨⟨codes_of_encode rfl, ?asrA⟩, fun a => ⟨codes_of_encode rfl, ?asrBp⟩, fun a => ⟨codes_of_encode rfl, ?asrBpX⟩⟩
  case asrA => exact exec_eq_of_modify_acc asr rfl
  case asrBp | asrBpX => exact onPlace_of_modify asr rfl

/-- Settles O43: both are word read-modify-writes of two different bytes. -/
theorem wordShiftResult : Obligations.WordShiftResult := by
  intro s
  refine ⟨fun a => ⟨codes_of_encode rfl, ?asw⟩, fun a => ⟨codes_of_encode rfl, ?row⟩⟩
  case asw => exact exec_eq_of_modifyWord (fun w => aslWord_eq w s.p) rfl (word_ne_add_one a)
  case row => exact exec_eq_of_modifyWord (fun w => rolWord_eq w s.p) rfl (word_ne_add_one a)

end Sys2Proof.Machine
end

section
/-! Control transfer and no-operations (41_ctrl_nop.md R130 to R139): what a jump, the pushes of a call and the pulls of a
return answer where their bytes can be accessed, and what each instruction makes of it. -/

namespace Sys2Proof

variable {op : Byte} {i : Instr}

/-- An instruction whose opcode has a word operand is that operand's instruction. -/
theorem exists_eq_of_opcode_f3 {k : Word → Instr} (hf : formatOf op = .f3 k) (h : opcodeOf i = op) : ∃ w, i = k w := by
  have hspells := spells_encode i
  rw [h, hf] at hspells
  generalize (encode i).tail = ops at hspells
  cases hspells
  exact ⟨_, rfl⟩

end Sys2Proof

namespace Sys2Proof.Machine

open Sys2Proof.Safety

variable {s t : State}

/-! ### Addresses in numbers -/

theorem add_ofNat_eq_ofNat (w : Word) (n : Nat) : w + BitVec.ofNat 16 n = BitVec.ofNat 16 (w.toNat + n) := by
  rw [BitVec.ofNat_add, BitVec.ofNat_toNat, BitVec.setWidth_eq]

/-- Two up undo two down. -/
theorem spUp_two_spDown_spDown (e : Bool) (sp : Word) : spUp e (spDown e (spDown e sp)) 2 = sp := by
  rw [← spUp_spUp e _ 1 1, spUp_spDown, spUp_spDown]

/-! ### Jumps -/

theorem jumpThrough_of_accessible {q : Word} (hlo : Accessible s q) (hhi : Accessible s (q + 1#16)) :
    jumpThrough q s = .ok { s with pc := wordAt 0 q (q + 1#16) s } :=
  jumpThrough_eq_ok.2 ⟨hlo, hhi, by rw [wordAt_eq]; rfl⟩

/-- A jump changes PC only. -/
theorem eq_setPc_of_jumpThrough {q : Word} (hjump : jumpThrough q s = .ok t) : ∃ v, t = s.setPc v := by
  obtain ⟨-, -, rfl⟩ := jumpThrough_eq_ok.1 hjump
  exact ⟨_, rfl⟩

/-! ### Calls -/

/-- The state after a call has pushed its return address into memory `m` (R131, R132). -/
def calledWith (s : State) (m : Memory) : State :=
  { s with mem := m, sp := spDown s.p.e (spDown s.p.e s.sp) }

/-- The two bytes of the return address, the high one at S (R131, R132). -/
def returnCells (s : State) : List (Word × Byte) :=
  [(s.sp, hiByte (s.pc + 2#16)), (spDown s.p.e s.sp, loByte (s.pc + 2#16))]

/-- The pushes of a call, where they answer at all. -/
theorem pushReturn_stores (hpush : pushReturn s = .ok t) : ∃ m, Stored s (returnCells s) m ∧ t = calledWith s m := by
  obtain ⟨-, -, rfl⟩ := pushWord_eq_ok.1 hpush
  rw [stackDec_eq_spDown, stackDec_eq_spDown]
  exact ⟨_, stored_two s _ _ (spDown_ne _ _).symm, rfl⟩

theorem pushReturn_of_accessible (hhi : Accessible s s.sp) (hlo : Accessible s (spDown s.p.e s.sp)) :
    ∃ m, Stored s (returnCells s) m ∧ pushReturn s = .ok (calledWith s m) := by
  obtain ⟨t, ht⟩ := (pushWord_accesses (s.pc + 2#16) s).answers (by simp [hhi, hlo])
  obtain ⟨m, hm, rfl⟩ := pushReturn_stores ht
  exact ⟨m, hm, ht⟩

/-- A call: what follows the pushes changes PC only. -/
theorem pushReturn_bind_setPc {k : State → Res State} (hk : ∀ {u v}, k u = .ok v → ∃ w, v = u.setPc w)
    (hcall : outcome (pushReturn s >>= k) = .next t) : ∃ u w, pushReturn s = .ok u ∧ t = u.setPc w := by
  obtain ⟨u, hu, hut⟩ := bind_eq_ok.1 (outcome_eq_next.1 hcall)
  obtain ⟨w, rfl⟩ := hk hut
  exact ⟨u, w, hu, rfl⟩

/-- Each of the four calls pushes the return address and goes somewhere (R131, R132). -/
theorem exec_call_pushes {i : Instr} (hop : opcodeOf i ∈ [0x20#8, 0x22#8, 0x23#8, 0x63#8])
    (hexec : exec i s = .next t) : ∃ u w, pushReturn s = .ok u ∧ t = u.setPc w := by
  simp only [List.mem_cons, List.not_mem_nil, or_false] at hop
  rcases hop with hop | hop | hop | hop
  · obtain ⟨a, rfl⟩ := exists_eq_of_opcode_f3 (k := .jsrAbs) rfl hop
    exact pushReturn_bind_setPc (fun hk => ⟨a, (Except.ok.inj hk).symm⟩) hexec
  · obtain ⟨a, rfl⟩ := exists_eq_of_opcode_f3 (k := .jsrAbsInd) rfl hop
    exact pushReturn_bind_setPc eq_setPc_of_jumpThrough hexec
  · obtain ⟨a, rfl⟩ := exists_eq_of_opcode_f3 (k := .jsrAbsXInd) rfl hop
    exact pushReturn_bind_setPc eq_setPc_of_jumpThrough hexec
  · obtain ⟨r, rfl⟩ := exists_eq_of_opcode_f3 (k := .bsr) rfl hop
    exact pushReturn_bind_setPc (fun hk => ⟨_, (Except.ok.inj hk).symm⟩) hexec

/-! ### Returns -/

theorem returnSub_of_accessible (hlo : Accessible s (spUp s.p.e s.sp 1)) (hhi : Accessible s (spUp s.p.e s.sp 2)) :
    returnSub s = .ok { s with
      sp := spUp s.p.e s.sp 2
      pc := wordAt 0 (spUp s.p.e s.sp 1) (spUp s.p.e s.sp 2) s + 1#16 } := by
  rw [returnSub_eq_ok]
  simp only [stackInc_eq_spUp, spUp_spUp]
  exact ⟨hlo, hhi, by rw [wordAt_eq]; rfl⟩

/-- Before the pulls RTN adds its whole operand to S, or nothing of it (R134). -/
theorem rtnBefore_toNat (d : Byte) (s : State) :
    (rtnBefore d s).toNat = if rtnOrderOf s = .adjustThenPull then d.toNat else 0 := by
  unfold rtnBefore
  split
  case isTrue hzero => rw [hzero]; exact (ite_self _).symm
  case isFalse => cases rtnOrderOf s <;> rfl

/-- What RTN adds before and after the pulls is its operand. -/
theorem rtnBefore_add_rest (d : Byte) (s : State) : (rtnBefore d s).toNat + (d - rtnBefore d s).toNat = d.toNat := by
  have hle : (rtnBefore d s).toNat ≤ d.toNat := by rw [rtnBefore_toNat]; split <;> omega
  rw [BitVec.toNat_sub_of_le hle]; omega

theorem returnAdjust_of_accessible {d : Byte} {q : Nat} (hq : (rtnBefore d s).toNat = q)
    (hlo : Accessible s (spUp s.p.e s.sp (q + 1))) (hhi : Accessible s (spUp s.p.e s.sp (q + 2))) :
    returnAdjust d s = .ok { s with
      sp := spUp s.p.e s.sp (d.toNat + 2)
      pc := wordAt 0 (spUp s.p.e s.sp (q + 1)) (spUp s.p.e s.sp (q + 2)) s + 1#16 } := by
  have htotal : q + 1 + 1 + (d - rtnBefore d s).toNat = d.toNat + 2 := by
    have := rtnBefore_add_rest d s
    omega
  rw [returnAdjust_eq_ok]
  simp only [stackInc_eq_spUp, stackAdd_eq_spUp, spUp_spUp, hq, htotal]
  exact ⟨hlo, hhi, by rw [wordAt_eq]; rfl⟩

theorem trapReturn_of_accessible (h1 : Accessible s (spUp s.p.e s.sp 1)) (h2 : Accessible s (spUp s.p.e s.sp 2))
    (h3 : Accessible s (spUp s.p.e s.sp 3)) :
    trapReturn s = .ok { s with
      p := unpackP (peek 0 (spUp s.p.e s.sp 1) s) s.p
      sp := spUp s.p.e s.sp 3
      pc := wordAt 1 (spUp s.p.e s.sp 2) (spUp s.p.e s.sp 3) s } := by
  rw [trapReturn_eq_ok]
  simp only [stackInc_eq_spUp, spUp_spUp]
  exact ⟨h1, h2, h3, by rw [wordAt_eq]⟩

/-- The two bytes of a word in ram are read as that word (R45). -/
theorem wordAt_of_ram {lo hi w : Word} (hlo : kindAt s lo = .ram) (hhi : kindAt s hi = .ram)
    (hrlo : s.mem.read lo.toNat = loByte w) (hrhi : s.mem.read hi.toNat = hiByte w) (k : Nat) : wordAt k lo hi s = w := by
  rw [wordAt_eq, peek_of_ram hlo, peek_of_ram hhi, hrlo, hrhi, mkWord_hiByte_loByte]

/-- A byte stored in ram is what the memory then holds. -/
theorem read_of_stored {cells : List (Word × Byte)} {m : Memory} (hm : Stored s cells m) {a : Word} {v : Byte}
    (ha : (a, v) ∈ cells) (hram : kindAt s a = .ram) : m.read a.toNat = v :=
  (hm.2 (a, v) ha).trans (if_pos hram)

/-! ### The statements of 41_ctrl_nop.md -/

/-- Settles O57: both are only the move of PC past themselves. -/
theorem nopAndAugOnlyAdvance : Obligations.NopAndAugOnlyAdvance :=
  fun _ => ⟨⟨codes_of_encode rfl, rfl⟩, fun _ _ _ => ⟨codes_of_encode rfl, rfl⟩⟩

/-- Settles O52: the operand itself, or the word that `jumpThrough` reads. -/
theorem jumpsGoToTarget : Obligations.JumpsGoToTarget := by
  intro s
  refine ⟨fun a => ⟨codes_of_encode rfl, rfl⟩, fun a => ⟨codes_of_encode rfl, fun hlo hhi => ?indirect⟩,
    fun a => ⟨codes_of_encode rfl, ?indexed⟩⟩
  case indirect => exact congrArg outcome (jumpThrough_of_accessible hlo hhi)
  case indexed =>
    rw [← add_zext16_eq_ofNat]
    intro q hlo hhi
    exact congrArg outcome (jumpThrough_of_accessible hlo hhi)

/-- Settles O53: the pushes answer one memory for all four calls, and the target is found in the state they leave. -/
theorem callsPushReturnAddress : Obligations.CallsPushReturnAddress := by
  intro s hhi hlo
  rw [← add_ofNat_eq_ofNat s.pc 2]
  obtain ⟨m, hm, hpush⟩ := pushReturn_of_accessible hhi hlo
  have call (k : State → Res State) : outcome (pushReturn s >>= k) = outcome (k (calledWith s m)) := by
    rw [hpush, ok_bind]
  refine ⟨m, hm, fun a => ⟨codes_of_encode rfl, ?jsrAbs⟩,
    fun a => ⟨codes_of_encode rfl, fun hqlo hqhi => ?jsrAbsInd⟩, fun a => ⟨codes_of_encode rfl, ?jsrAbsXInd⟩,
    fun r => ⟨codes_of_encode rfl, ?bsr⟩⟩
  case jsrAbs => exact call _
  case jsrAbsInd => exact (call _).trans (congrArg outcome (jumpThrough_of_accessible (s := calledWith s m) hqlo hqhi))
  case jsrAbsXInd =>
    rw [← add_zext16_eq_ofNat]
    intro q hqlo hqhi
    exact (call _).trans (congrArg outcome (jumpThrough_of_accessible (s := calledWith s m) hqlo hqhi))
  case bsr =>
    have htarget : BitVec.ofNat 16 (s.pc.toNat + 2 + r.toNat) = s.pc + 2#16 + r := by
      rw [BitVec.ofNat_add, ← add_ofNat_eq_ofNat, BitVec.ofNat_toNat, BitVec.setWidth_eq]
    rw [htarget]
    exact call _

/-- Settles O54: RTS by the word that it pulls; RTN by the same two pulls, after as much of the operand as the order
says. -/
theorem returnsPullAddressPlusOne : Obligations.ReturnsPullAddressPlusOne := by
  intro s d order base ret before
  have hret (q : Nat) : ret q = wordAt 0 (base (q + 1)) (base (q + 2)) s + 1#16 := (add_ofNat_eq_ofNat _ 1).symm
  have rtn {d : Byte} {q : Nat} (hq : (rtnBefore d s).toNat = q) (hlo : Accessible s (base (q + 1)))
      (hhi : Accessible s (base (q + 2))) :
      exec (.rtn d) s = .next { s with sp := base (d.toNat + 2), pc := ret q } := by
    rw [hret]
    exact congrArg outcome (returnAdjust_of_accessible hq hlo hhi)
  refine ⟨codes_of_encode rfl, codes_of_encode rfl, fun hlo hhi => ?rts, rtn (rtnBefore_toNat d s)⟩
  have rts : exec .rts s = .next { s with sp := base 2, pc := ret 0 } := by
    rw [hret]
    exact congrArg outcome (returnSub_of_accessible hlo hhi)
  exact ⟨rts, (rtn (d := 0#8) (q := 0) rfl hlo hhi).trans rts.symm⟩

/-- Settles O55: the three pulls of `trapReturn`; the status byte is taken by `unpackP`, which keeps E. -/
theorem rtiRestoresFlagsAndPc : Obligations.RtiRestoresFlagsAndPc :=
  fun _ => ⟨codes_of_encode rfl, fun h1 h2 h3 => congrArg outcome (trapReturn_of_accessible h1 h2 h3)⟩

/-- Settles O56: BRK is trap entry through VEC_IRQ, whatever I is and the skipped byte holds. -/
theorem brkTakesBreak : Obligations.BrkTakesBreak := by
  intro s k
  refine ⟨codes_of_encode rfl, fun hacc => ?_⟩
  rw [← add_ofNat_eq_ofNat s.pc 2]
  obtain ⟨t, henters, ht⟩ := trapEntry_enters hacc (s.pc + 2#16) true
  exact ⟨t, henters, congrArg outcome ht⟩

/-- Settles O22: the call leaves `opaddr + 2` in the two stack bytes, RTS finds it there again and adds one. -/
theorem callThenRtsReturns : Obligations.CallThenRtsReturns := by
  intro s t h i hop hexec sp1 hstack hsp he hcfg
  obtain ⟨u, w, hpush, rfl⟩ := exec_call_pushes hop hexec
  obtain ⟨m, hm, rfl⟩ := pushReturn_stores hpush
  have hup1 : spUp h.p.e h.sp 1 = sp1 := by rw [he, hsp]; exact spUp_spDown _ _
  have hup2 : spUp h.p.e h.sp 2 = s.sp := by rw [he, hsp]; exact spUp_two_spDown_spDown _ _
  obtain ⟨hramHi, hkeptHi⟩ := hstack s.sp (by simp)
  obtain ⟨hramLo, hkeptLo⟩ := hstack sp1 (by simp)
  have hlo : h.mem.read sp1.toNat = loByte (s.pc + 2#16) :=
    hkeptLo.trans (read_of_stored hm (by simp [returnCells, sp1]) hramLo)
  have hhi : h.mem.read s.sp.toNat = hiByte (s.pc + 2#16) :=
    hkeptHi.trans (read_of_stored hm (by simp [returnCells]) hramHi)
  rw [← kindAt_congr (s := s) (t := h) hcfg] at hramLo hramHi
  have hword : wordAt 0 sp1 s.sp h = s.pc + 2#16 := wordAt_of_ram hramLo hramHi hlo hhi 0
  have hrts := returnSub_of_accessible (s := h) (by simp [hup1, hramLo]) (by simp [hup2, hramHi])
  rw [hup1, hup2, hword, BitVec.add_assoc] at hrts
  exact congrArg outcome hrts

end Sys2Proof.Machine
end

section
/-! Flag set and clear (42_flags.md R145 to R153): what an instruction of one byte does that only writes P. -/

namespace Sys2Proof.Machine

open Sys2Proof.Safety

variable {i : Instr} {s : State}

/-- Writing P and moving PC past the instruction leaves every other part of the state as it is. -/
theorem advance_ok_setP (len : Word) (p : Flags) (s : State) :
    advance len (.ok (s.setP p)) = .next { s with p := p, pc := s.pc + len } := rfl

/-- An implied instruction that does nothing but write `p` to P: its one byte and its whole next state. -/
theorem codes_and_exec_of_setP {op : Byte} {p : Flags} (hencode : encode i = [op])
    (hexec : exec i s = advance 1#16 (.ok (s.setP p))) :
    Codes [op] i ∧ exec i s = .next { s with p := p, pc := s.pc + 1#16 } :=
  ⟨codes_of_encode hencode, hexec.trans (advance_ok_setP 1#16 p s)⟩

/-- Settles O47: each instruction is one byte and one write of P, in which one flag differs from the old P. -/
theorem flagInstructionsWriteOneFlag : Obligations.FlagInstructionsWriteOneFlag := by
  intro s
  refine ⟨?clc, ?sec, ?cld, ?sed, ?cli, ?sei, ?clv, ?cle, ?see⟩
  case clc | sec | cld | sed | cli | sei | clv | cle | see => exact codes_and_exec_of_setP rfl rfl

end Sys2Proof.Machine
end

section
/-! Arithmetic and compare (43_arith.md R160 to R168): each function of the bytes as a number, the signed reading of the
overflow flag, then what each form answers. -/

namespace Sys2Proof.Machine

open Sys2Proof.Safety

/-! ### Differences of bytes as numbers (R162 to R166) -/

theorem ofInt_toNat_sub_toNat {w : Nat} (x y : BitVec w) :
    BitVec.ofInt w ((x.toNat : Int) - (y.toNat : Int)) = x - y := by
  rw [Int.sub_eq_add_neg, BitVec.ofInt_add, BitVec.ofInt_neg, BitVec.ofInt_natCast, BitVec.ofInt_natCast,
    BitVec.ofNat_toNat, BitVec.ofNat_toNat, BitVec.setWidth_eq, BitVec.setWidth_eq, ← BitVec.sub_eq_add_neg]

theorem compareFlags_eq (reg m : Byte) (p : Flags) :
    let r := BitVec.ofInt 8 ((reg.toNat : Int) - (m.toNat : Int))
    compareFlags reg m p = { p with n := r.getLsbD 7, z := decide (reg = m), c := decide (m.toNat ≤ reg.toNat) } := by
  rw [compareFlags, ofInt_toNat_sub_toNat, BitVec.msb_eq_getLsbD_last]; rfl

theorem negByte_eq (a : Byte) (p : Flags) :
    let r := BitVec.ofInt 8 (0 - (a.toNat : Int))
    negByte a p = (r, { p with n := r.getLsbD 7, z := decide (r = 0#8) }) := by
  have hsub : BitVec.ofInt 8 (0 - (a.toNat : Int)) = 0#8 - a := ofInt_toNat_sub_toNat 0#8 a
  rw [hsub, negByte, setNZ_eq]

/-! ### Binary addition and subtraction (R160, R161) -/

theorem adcByte_of_binary {p : Flags} (h : p.d = false) (draw : Nat) (a m : Byte) :
    adcByte draw a m p = adcBinary a m p := by
  rw [adcByte, h]; rfl

theorem sbcByte_of_binary {p : Flags} (h : p.d = false) (draw : Nat) (a m : Byte) :
    sbcByte draw a m p = sbcBinary a m p := by
  rw [sbcByte, h]; rfl

/-- A bit of the result differs from those of both operands when these agree and it differs from the first (R160). -/
theorem getLsbD_xor_and_xor (a m r : Byte) (j : Nat) :
    ((a ^^^ r) &&& (m ^^^ r)).getLsbD j = ((a.getLsbD j == m.getLsbD j) && (r.getLsbD j != a.getLsbD j)) := by
  have hbits : ∀ x y z : Bool, ((x ^^ z) && (y ^^ z)) = ((x == y) && (z != x)) := by decide
  rw [BitVec.getLsbD_and, BitVec.getLsbD_xor, BitVec.getLsbD_xor, hbits]

theorem adcBinary_eq (a m : Byte) (p : Flags) :
    let t := a.toNat + m.toNat + p.c.toNat
    let r : Byte := BitVec.ofNat 8 t
    adcBinary a m p = (r, { p with
      n := r.getLsbD 7
      v := (a.getLsbD 7 == m.getLsbD 7) && (r.getLsbD 7 != a.getLsbD 7)
      z := decide (r = 0#8)
      c := decide (256 ≤ t) }) := by
  rw [adcBinary, setNZ_eq, getLsbD_xor_and_xor]

theorem toNat_not_byte (m : Byte) : (~~~m).toNat = 255 - m.toNat := BitVec.toNat_not

/-- Subtraction is addition of the complement: the sums are the same number, and the complement turns round every bit
of the operand in the condition for V (R161). -/
theorem sbcBinary_eq_adcBinary_not (a m : Byte) (p : Flags) : sbcBinary a m p = adcBinary a (~~~m) p := by
  have hbits : ∀ x y z : Bool, ((x ^^ y) && (x ^^ z)) = ((x ^^ z) && (!y ^^ z)) := by decide
  have hxor (r : Byte) : (a ^^^ m) &&& (a ^^^ r) = (a ^^^ r) &&& (~~~m ^^^ r) := by
    apply BitVec.eq_of_getLsbD_eq
    intro j hj
    rw [BitVec.getLsbD_and, BitVec.getLsbD_and, BitVec.getLsbD_xor, BitVec.getLsbD_xor, BitVec.getLsbD_xor,
      BitVec.getLsbD_not, decide_eq_true hj, Bool.true_and, hbits]
  rw [sbcBinary, adcBinary, toNat_not_byte, hxor]

theorem sbcBinary_eq (a m : Byte) (p : Flags) :
    let t := a.toNat + (255 - m.toNat) + p.c.toNat
    let r : Byte := BitVec.ofNat 8 t
    sbcBinary a m p = (r, { p with
      n := r.getLsbD 7
      v := (a.getLsbD 7 != m.getLsbD 7) && (r.getLsbD 7 != a.getLsbD 7)
      z := decide (r = 0#8)
      c := decide (256 ≤ t) }) := by
  have hbits : ∀ x y : Bool, (x == (decide (7 < 8) && !y)) = (x != y) := by decide
  rw [sbcBinary_eq_adcBinary_not, adcBinary_eq, toNat_not_byte, BitVec.getLsbD_not, hbits]

/-! ### The signed reading (R167) -/

theorem getLsbD_seven_eq (b : Byte) : b.getLsbD 7 = decide (b.toInt < 0) :=
  (BitVec.msb_eq_getLsbD_last b).symm.trans BitVec.msb_eq_toInt

theorem toInt_not_byte (m : Byte) : (~~~m).toInt = -m.toInt - 1 := by
  have hm := m.isLt
  rw [BitVec.toInt_eq_toNat_cond, BitVec.toInt_eq_toNat_cond, toNat_not_byte]
  split <;> split <;> omega

/-- As a signed number the result of an addition is the signed sum, wrapped into -128 to 127. -/
theorem toInt_adc (a m : Byte) (c : Bool) :
    (BitVec.ofNat 8 (a.toNat + m.toNat + c.toNat)).toInt = (a.toInt + m.toInt + c.toNat).bmod 256 := by
  have hsum : BitVec.ofNat 8 (a.toNat + m.toNat + c.toNat) = BitVec.ofInt 8 (a.toInt + m.toInt + c.toNat) := by
    rw [BitVec.ofNat_add, BitVec.ofNat_add, BitVec.ofNat_toNat, BitVec.ofNat_toNat, BitVec.setWidth_eq,
      BitVec.setWidth_eq, BitVec.ofInt_add, BitVec.ofInt_add, BitVec.ofInt_toInt, BitVec.ofInt_toInt,
      BitVec.ofInt_natCast]
  rw [hsum, BitVec.toInt_ofInt]

/-- A sum of two signed bytes and a carry leaves the signed range exactly when the operands agree in sign and the
wrapped sum does not; inside the range nothing is wrapped. -/
theorem sign_rule_iff_out_of_range {x y k : Int} (hx : -128 ≤ x ∧ x ≤ 127) (hy : -128 ≤ y ∧ y ≤ 127) (hk : 0 ≤ k ∧ k ≤ 1) :
    let sum := x + y + k
    ((((x < 0) ↔ (y < 0)) ∧ ¬ ((sum.bmod 256 < 0) ↔ (x < 0))) ↔ ¬ (-128 ≤ sum ∧ sum ≤ 127)) ∧
      (-128 ≤ sum ∧ sum ≤ 127 → sum.bmod 256 = sum) := by
  intro sum
  have hwrap : sum < -128 ∧ sum.bmod 256 = sum + 256 ∨ (-128 ≤ sum ∧ sum ≤ 127) ∧ sum.bmod 256 = sum ∨
      127 < sum ∧ sum.bmod 256 = sum - 256 := by
    rw [Int.bmod_def]; split <;> omega
  generalize sum.bmod 256 = r at hwrap ⊢
  rcases hwrap with ⟨hlow, hr⟩ | ⟨hin, hr⟩ | ⟨hhigh, hr⟩ <;> omega

theorem toInt_byte_range (b : Byte) : -128 ≤ b.toInt ∧ b.toInt ≤ 127 :=
  ⟨b.le_toInt, Int.le_of_lt_add_one b.toInt_lt⟩

/-- V after a binary addition is the two's complement overflow, and without it the result is the signed sum (R167). -/
theorem adcBinary_signed (a m : Byte) (p : Flags) :
    let sum : Int := a.toInt + m.toInt + p.c.toNat
    (adcBinary a m p).2.v = decide (¬ (-128 ≤ sum ∧ sum ≤ 127)) ∧
      ((adcBinary a m p).2.v = false → (adcBinary a m p).1.toInt = sum) := by
  intro sum
  have hcarry : (0 : Int) ≤ p.c.toNat ∧ (p.c.toNat : Int) ≤ 1 := by cases p.c <;> decide
  obtain ⟨hrule, hexact⟩ := sign_rule_iff_out_of_range (toInt_byte_range a) (toInt_byte_range m) hcarry
  have hv : (adcBinary a m p).2.v = decide (¬ (-128 ≤ sum ∧ sum ≤ 127)) := by
    rw [adcBinary_eq, Bool.eq_iff_iff, decide_eq_true_iff, ← hrule, getLsbD_seven_eq, getLsbD_seven_eq, getLsbD_seven_eq,
      toInt_adc, Bool.and_eq_true, beq_iff_eq, bne_iff_ne, Ne, decide_eq_decide, decide_eq_decide]
  refine ⟨hv, fun hclear => ?_⟩
  have hin : -128 ≤ sum ∧ sum ≤ 127 := by
    rw [hv] at hclear
    exact Decidable.not_not.1 (of_decide_eq_false hclear)
  rw [adcBinary_eq, toInt_adc]
  exact hexact hin

/-- The carry of the complement sum is "not borrow" (R161). -/
theorem sbcBinary_carry (a m : Byte) (p : Flags) :
    (sbcBinary a m p).2.c = decide (m.toNat + (1 - p.c.toNat) ≤ a.toNat) := by
  have hm := m.isLt
  have hcarry := p.c.toNat_le
  rw [sbcBinary_eq, decide_eq_decide]
  omega

/-! ### Decimal mode (R168) -/

theorem validBcd_iff {b : Byte} : validBcd b = true ↔ b.toNat / 16 ≤ 9 ∧ b.toNat % 16 ≤ 9 := by
  rw [validBcd, Bool.and_eq_true, decide_eq_true_iff, decide_eq_true_iff]

theorem bcdVal_lt {b : Byte} (h : validBcd b = true) : bcdVal b < 100 := by
  obtain ⟨hhi, hlo⟩ := validBcd_iff.1 h
  rw [bcdVal]; omega

section
variable {p : Flags} {a m : Byte} (hd : p.d = true) (draw : Nat)
include hd

theorem adcByte_of_validBcd (ha : validBcd a = true) (hm : validBcd m = true) :
    let q := bcdVal a + bcdVal m + p.c.toNat
    adcByte draw a m p = (bcdByte (q % 100), decimalFlags draw (decide (100 ≤ q)) p) := by
  rw [adcByte, hd, if_pos rfl, adcDecimal, ha, hm]; rfl

/-- With 100 added the difference stays a natural number, and `mod 100` does not see it. -/
theorem sbcByte_of_validBcd (ha : validBcd a = true) (hm : validBcd m = true) :
    let q := bcdVal a + 100 - bcdVal m - (1 - p.c.toNat)
    sbcByte draw a m p =
      (bcdByte (q % 100), decimalFlags draw (decide (bcdVal m + (1 - p.c.toNat) ≤ bcdVal a)) p) := by
  intro q
  have hval := bcdVal_lt hm
  have hcarry := p.c.toNat_le
  have hmod : (((bcdVal a : Int) - bcdVal m - (1 - p.c.toNat)) % 100).toNat = q % 100 := by omega
  have hsign : (0 ≤ (bcdVal a : Int) - bcdVal m - (1 - p.c.toNat)) ↔ bcdVal m + (1 - p.c.toNat) ≤ bcdVal a := by omega
  rw [sbcByte, hd, if_pos rfl, sbcDecimal, ha, hm]
  simp only [Bool.and_self, if_true, hmod, hsign]

theorem adcByte_of_invalidBcd (h : (validBcd a && validBcd m) = false) : adcByte draw a m p = decimalInvalid draw p := by
  rw [adcByte, hd, if_pos rfl, adcDecimal, h]; rfl

theorem sbcByte_of_invalidBcd (h : (validBcd a && validBcd m) = false) : sbcByte draw a m p = decimalInvalid draw p := by
  rw [sbcByte, hd, if_pos rfl, sbcDecimal, h]; rfl

end

/-- A nibble above 9 in either operand: not both are valid BCD. -/
theorem validBcd_and_eq_false {a m : Byte}
    (h : (9 < a.toNat / 16 ∨ 9 < a.toNat % 16) ∨ (9 < m.toNat / 16 ∨ 9 < m.toNat % 16)) :
    (validBcd a && validBcd m) = false := by
  rw [← Bool.not_eq_true, Bool.and_eq_true, validBcd_iff, validBcd_iff]
  omega

/-! ### What the forms answer -/

section
variable {s : State} {i : Instr} {len : Word} {o : Source}

/-- What the read of an operand gives is the byte `OnOperand` speaks of. -/
theorem onOperand_of_readSource {md : Mode} {P : Byte → Prop} (h : ∀ {m}, readSource (.mem md) s = .ok m → P m) :
    OnOperand md s P :=
  fun _ _ hm => h (readSource_of_operandAt hm)

/-- An operation on A and an operand, its two results going to A and P. -/
def Accumulates (f : Byte → Byte → Flags → Byte × Flags) (s : State) (i : Instr) (len : Word) (m : Byte) : Prop :=
  exec i s = .next { s with a := (f s.a m s.p).1, p := (f s.a m s.p).2, pc := s.pc + len }

theorem accumulates_of_exec {f : Byte → Byte → Flags → Byte × Flags} {m : Byte}
    (hexec : exec i s = advance len (accumulate f o s)) (hm : readSource o s = .ok m) : Accumulates f s i len m :=
  hexec.trans (advance_accumulate hm len)

/-- Where the function's results are known, so is the next state. -/
theorem Accumulates.exec_eq {f : Byte → Byte → Flags → Byte × Flags} {m r : Byte} {p : Flags}
    (h : Accumulates f s i len m) (hf : f s.a m s.p = (r, p)) :
    exec i s = .next { s with a := r, p := p, pc := s.pc + len } := by
  rwa [Accumulates, hf] at h

/-- In each of the 9 forms of ADC, with its bytes, `run` holds of the instruction, its length and its operand. -/
def AdcForms (s : State) (run : Instr → Word → Byte → Prop) : Prop :=
  (∀ (a : Byte), Codes [0x61#8, a] (.adcIndX a) ∧ OnOperand (.indX a) s (run (.adcIndX a) 2#16)) ∧
  (∀ (a : Byte), Codes [0x65#8, a] (.adcBp a) ∧ OnOperand (.bp a) s (run (.adcBp a) 2#16)) ∧
  (∀ (d : Byte), Codes [0x69#8, d] (.adcImm d) ∧ run (.adcImm d) 2#16 d) ∧
  (∀ (a : Word), Codes [0x6D#8, loByte a, hiByte a] (.adcAbs a) ∧ OnOperand (.abs a) s (run (.adcAbs a) 3#16)) ∧
  (∀ (a : Byte), Codes [0x71#8, a] (.adcIndY a) ∧ OnOperand (.indY a) s (run (.adcIndY a) 2#16)) ∧
  (∀ (a : Byte), Codes [0x72#8, a] (.adcIndZ a) ∧ OnOperand (.indZ a) s (run (.adcIndZ a) 2#16)) ∧
  (∀ (a : Byte), Codes [0x75#8, a] (.adcBpX a) ∧ OnOperand (.bpX a) s (run (.adcBpX a) 2#16)) ∧
  (∀ (a : Word), Codes [0x79#8, loByte a, hiByte a] (.adcAbsY a) ∧ OnOperand (.absY a) s (run (.adcAbsY a) 3#16)) ∧
  (∀ (a : Word), Codes [0x7D#8, loByte a, hiByte a] (.adcAbsX a) ∧ OnOperand (.absX a) s (run (.adcAbsX a) 3#16))

/-- In each of the 9 forms of SBC, with its bytes, `run` holds of the instruction, its length and its operand. -/
def SbcForms (s : State) (run : Instr → Word → Byte → Prop) : Prop :=
  (∀ (a : Byte), Codes [0xE1#8, a] (.sbcIndX a) ∧ OnOperand (.indX a) s (run (.sbcIndX a) 2#16)) ∧
  (∀ (a : Byte), Codes [0xE5#8, a] (.sbcBp a) ∧ OnOperand (.bp a) s (run (.sbcBp a) 2#16)) ∧
  (∀ (d : Byte), Codes [0xE9#8, d] (.sbcImm d) ∧ run (.sbcImm d) 2#16 d) ∧
  (∀ (a : Word), Codes [0xED#8, loByte a, hiByte a] (.sbcAbs a) ∧ OnOperand (.abs a) s (run (.sbcAbs a) 3#16)) ∧
  (∀ (a : Byte), Codes [0xF1#8, a] (.sbcIndY a) ∧ OnOperand (.indY a) s (run (.sbcIndY a) 2#16)) ∧
  (∀ (a : Byte), Codes [0xF2#8, a] (.sbcIndZ a) ∧ OnOperand (.indZ a) s (run (.sbcIndZ a) 2#16)) ∧
  (∀ (a : Byte), Codes [0xF5#8, a] (.sbcBpX a) ∧ OnOperand (.bpX a) s (run (.sbcBpX a) 2#16)) ∧
  (∀ (a : Word), Codes [0xF9#8, loByte a, hiByte a] (.sbcAbsY a) ∧ OnOperand (.absY a) s (run (.sbcAbsY a) 3#16)) ∧
  (∀ (a : Word), Codes [0xFD#8, loByte a, hiByte a] (.sbcAbsX a) ∧ OnOperand (.absX a) s (run (.sbcAbsX a) 3#16))

/-- Every form of ADC is `adcByte` on A and the operand: what follows from that holds of all of them. -/
theorem adcForms {run : Instr → Word → Byte → Prop}
    (h : ∀ {i len m}, Accumulates (adcByte s.draws) s i len m → run i len m) : AdcForms s run := by
  refine ⟨fun a => ⟨codes_of_encode rfl, ?indX⟩, fun a => ⟨codes_of_encode rfl, ?bp⟩,
    fun d => ⟨codes_of_encode rfl, ?imm⟩, fun a => ⟨codes_of_encode rfl, ?abs⟩, fun a => ⟨codes_of_encode rfl, ?indY⟩,
    fun a => ⟨codes_of_encode rfl, ?indZ⟩, fun a => ⟨codes_of_encode rfl, ?bpX⟩, fun a => ⟨codes_of_encode rfl, ?absY⟩,
    fun a => ⟨codes_of_encode rfl, ?absX⟩⟩
  case imm => exact h (accumulates_of_exec (o := .imm d) rfl rfl)
  case indX | bp | abs | indY | indZ | bpX | absY | absX =>
    exact onOperand_of_readSource fun hm => h (accumulates_of_exec rfl hm)

/-- Every form of SBC is `sbcByte` on A and the operand: what follows from that holds of all of them. -/
theorem sbcForms {run : Instr → Word → Byte → Prop}
    (h : ∀ {i len m}, Accumulates (sbcByte s.draws) s i len m → run i len m) : SbcForms s run := by
  refine ⟨fun a => ⟨codes_of_encode rfl, ?indX⟩, fun a => ⟨codes_of_encode rfl, ?bp⟩,
    fun d => ⟨codes_of_encode rfl, ?imm⟩, fun a => ⟨codes_of_encode rfl, ?abs⟩, fun a => ⟨codes_of_encode rfl, ?indY⟩,
    fun a => ⟨codes_of_encode rfl, ?indZ⟩, fun a => ⟨codes_of_encode rfl, ?bpX⟩, fun a => ⟨codes_of_encode rfl, ?absY⟩,
    fun a => ⟨codes_of_encode rfl, ?absX⟩⟩
  case imm => exact h (accumulates_of_exec (o := .imm d) rfl rfl)
  case indX | bp | abs | indY | indZ | bpX | absY | absX =>
    exact onOperand_of_readSource fun hm => h (accumulates_of_exec rfl hm)

/-- A compare writes P and PC alone (R162 to R165). -/
theorem exec_eq_of_compare {reg m : Byte} (hexec : exec i s = advance len (testOperand compareFlags reg o s))
    (hm : readSource o s = .ok m) :
    let r : Byte := BitVec.ofInt 8 ((reg.toNat : Int) - (m.toNat : Int))
    exec i s = .next { s with
      p := { s.p with n := r.getLsbD 7, z := decide (reg = m), c := decide (m.toNat ≤ reg.toNat) }
      pc := s.pc + len } := by
  rw [hexec, advance_testOperand hm, compareFlags_eq]

end

/-! ### The statements of 43_arith.md -/

/-- Settles O29: in every form ADC is `adcBinary` while D is clear. -/
theorem adcBinaryResult : Obligations.AdcBinaryResult := by
  intro s hd run
  exact adcForms (run := run) fun h => h.exec_eq ((adcByte_of_binary hd ..).trans (adcBinary_eq ..))

/-- Settles O30: in every form SBC is `sbcBinary` while D is clear. -/
theorem sbcBinaryResult : Obligations.SbcBinaryResult := by
  intro s hd run
  exact sbcForms (run := run) fun h => h.exec_eq ((sbcByte_of_binary hd ..).trans (sbcBinary_eq ..))

/-- Settles O31: the sign rule for ADC; for SBC the same rule with the complement, which as a signed number is
`-m - 1`. -/
theorem binaryOverflowIsSigned : Obligations.BinaryOverflowIsSigned := by
  intro s m hd sum dif
  have hadc : Accumulates (adcByte s.draws) s (.adcImm m) 2#16 m := accumulates_of_exec (o := .imm m) rfl rfl
  have hsbc : Accumulates (sbcByte s.draws) s (.sbcImm m) 2#16 m := accumulates_of_exec (o := .imm m) rfl rfl
  have hsum := adcBinary_signed s.a m s.p
  have hdif : dif = s.a.toInt + (~~~m).toInt + s.p.c.toNat := by rw [toInt_not_byte]; omega
  have hsigned := adcBinary_signed s.a (~~~m) s.p
  rw [← hdif, ← sbcBinary_eq_adcBinary_not] at hsigned
  obtain ⟨hv, hexact⟩ := hsigned
  exact ⟨⟨_, hadc.exec_eq (adcByte_of_binary hd ..), hsum⟩,
    ⟨_, hsbc.exec_eq (sbcByte_of_binary hd ..), hv, hexact, sbcBinary_carry s.a m s.p⟩⟩

/-- Settles O32: on valid BCD the result and the carry are the decimal ones, and the other flags are drawn. -/
theorem decimalResultOnValidBcd : Obligations.DecimalResultOnValidBcd := by
  intro s hd hhi hlo val bcd run runAdc runSbc
  have ha : validBcd s.a = true := validBcd_iff.2 ⟨hhi, hlo⟩
  obtain ⟨indX, bp, imm, abs, indY, indZ, bpX, absY, absX⟩ := adcForms (s := s) (run := runAdc) fun h hmhi hmlo =>
    ⟨_, _, _, h.exec_eq (adcByte_of_validBcd hd s.draws ha (validBcd_iff.2 ⟨hmhi, hmlo⟩))⟩
  exact ⟨indX, bp, imm, abs, indY, indZ, bpX, absY, absX, sbcForms (run := runSbc) fun h hmhi hmlo =>
    ⟨_, _, _, h.exec_eq (sbcByte_of_validBcd hd s.draws ha (validBcd_iff.2 ⟨hmhi, hmlo⟩))⟩⟩

/-- Settles O33: on invalid BCD the result and the four flags are drawn, and nothing else is. -/
theorem decimalInvalidBcdCompletes : Obligations.DecimalInvalidBcdCompletes := by
  intro s hd bad run
  obtain ⟨indX, bp, imm, abs, indY, indZ, bpX, absY, absX⟩ := adcForms (s := s) (run := run) fun h hbad =>
    ⟨_, _, _, _, _, h.exec_eq (adcByte_of_invalidBcd hd s.draws (validBcd_and_eq_false hbad))⟩
  exact ⟨indX, bp, imm, abs, indY, indZ, bpX, absY, absX, sbcForms (run := run) fun h hbad =>
    ⟨_, _, _, _, _, h.exec_eq (sbcByte_of_invalidBcd hd s.draws (validBcd_and_eq_false hbad))⟩⟩

/-- Settles O34: form by form, the encoding and the one compare all of them are. -/
theorem comparesSetFlagsOnly : Obligations.ComparesSetFlagsOnly := by
  intro s run
  refine ⟨fun a => ⟨codes_of_encode rfl, ?cmpIndX⟩, fun a => ⟨codes_of_encode rfl, ?cmpBp⟩,
    fun d => ⟨codes_of_encode rfl, ?cmpImm⟩, fun a => ⟨codes_of_encode rfl, ?cmpAbs⟩,
    fun a => ⟨codes_of_encode rfl, ?cmpIndY⟩, fun a => ⟨codes_of_encode rfl, ?cmpIndZ⟩,
    fun a => ⟨codes_of_encode rfl, ?cmpBpX⟩, fun a => ⟨codes_of_encode rfl, ?cmpAbsY⟩,
    fun a => ⟨codes_of_encode rfl, ?cmpAbsX⟩,
    fun d => ⟨codes_of_encode rfl, ?cpxImm⟩, fun a => ⟨codes_of_encode rfl, ?cpxBp⟩, fun a => ⟨codes_of_encode rfl, ?cpxAbs⟩,
    fun d => ⟨codes_of_encode rfl, ?cpyImm⟩, fun a => ⟨codes_of_encode rfl, ?cpyBp⟩, fun a => ⟨codes_of_encode rfl, ?cpyAbs⟩,
    fun d => ⟨codes_of_encode rfl, ?cpzImm⟩, fun a => ⟨codes_of_encode rfl, ?cpzBp⟩, fun a => ⟨codes_of_encode rfl, ?cpzAbs⟩⟩
  case cmpImm | cpxImm | cpyImm | cpzImm => exact exec_eq_of_compare (o := .imm d) rfl rfl
  case cmpIndX | cmpBp | cmpAbs | cmpIndY | cmpIndZ | cmpBpX | cmpAbsY | cmpAbsX | cpxBp | cpxAbs | cpyBp | cpyAbs | cpzBp |
      cpzAbs =>
    exact onOperand_of_readSource (exec_eq_of_compare rfl)

/-- Settles O35: the difference from 0 is the negative as a signed number; -128 alone has none in a byte and stays. -/
theorem negNegatesAccumulator : Obligations.NegNegatesAccumulator := by
  intro s r
  have hr : r = -s.a := (ofInt_toNat_sub_toNat 0#8 s.a).trans (BitVec.zero_sub s.a)
  refine ⟨codes_of_encode rfl, exec_eq_of_modify_acc (fun v => negByte_eq v s.p) rfl, fun hne => ?negated, fun heq => ?fixed⟩
  case negated => rw [hr]; exact BitVec.toInt_neg_of_ne_intMin hne
  case fixed => rw [hr, heq]; rfl

end Sys2Proof.Machine
end

section
/-! Increment and decrement (44_inc.md R170 to R179): each function as a sum or difference of numbers, then what the
instructions answer on A or memory, on an index register, and on a base-page word. -/

namespace Sys2Proof.Machine

open Sys2Proof.Safety

/-! ### The operations in numbers -/

theorem add_one_eq_ofNat {w : Nat} (x : BitVec w) : x + 1#w = BitVec.ofNat w (x.toNat + 1) := by
  rw [BitVec.ofNat_add, BitVec.ofNat_toNat, BitVec.setWidth_eq]

section
variable (v : Byte) (w : Word) (p : Flags)

theorem incByte_eq :
    let r := BitVec.ofNat 8 (v.toNat + 1)
    incByte v p = (r, { p with n := r.getLsbD 7, z := decide (r = 0#8) }) := by
  rw [incByte, add_one_eq_ofNat, setNZ_eq]

theorem decByte_eq :
    let r := BitVec.ofInt 8 ((v.toNat : Int) - 1)
    decByte v p = (r, { p with n := r.getLsbD 7, z := decide (r = 0#8) }) := by
  have hsub : BitVec.ofInt 8 ((v.toNat : Int) - 1) = v - 1#8 := ofInt_toNat_sub_toNat v 1#8
  rw [hsub, decByte, setNZ_eq]

theorem incWord_eq :
    let r := BitVec.ofNat 16 (w.toNat + 1)
    incWord w p = (r, { p with n := r.getLsbD 15, z := decide (r = 0#16) }) := by
  rw [incWord, add_one_eq_ofNat, setNZ16_eq]

theorem decWord_eq :
    let r := BitVec.ofInt 16 ((w.toNat : Int) - 1)
    decWord w p = (r, { p with n := r.getLsbD 15, z := decide (r = 0#16) }) := by
  have hsub : BitVec.ofInt 16 ((w.toNat : Int) - 1) = w - 1#16 := ofInt_toNat_sub_toNat w 1#16
  rw [hsub, decWord, setNZ16_eq]

end

/-! ### One register, and two bytes of the base page -/

/-- An implied instruction that does nothing but replace a register (by `set`) and write P: its one byte and its whole
next state. -/
theorem codes_and_exec_of_modifyReg {s : State} {i : Instr} {op reg r : Byte} {f : Byte → Flags → Byte × Flags} {p : Flags}
    (set : Byte → State → State) (hencode : encode i = [op]) (hf : f reg s.p = (r, p))
    (hexec : exec i s = advance 1#16 (modifyReg f reg set s)) :
    Codes [op] i ∧ exec i s = .next (((set r s).setP p).setPc ((set r s).pc + 1#16)) := by
  refine ⟨codes_of_encode hencode, ?_⟩
  rw [hexec, modifyReg, hf]; rfl

/-- The two bytes of a base-page word lie at different addresses, at the end of the page too (R47). -/
theorem basePage_ne_succ (off : Byte) (s : State) : basePage off s ≠ basePage (off + 1#8) s := by
  intro h
  have hoff : off = off + 1#8 := by simpa only [basePage, loByte_mkWord] using congrArg loByte h
  bv_omega

/-! ### The statements of 44_inc.md -/

/-- Settles O44: form by form, the encoding and the sum or difference on A or at EA. -/
theorem incDecResult : Obligations.IncDecResult := by
  intro s
  have inc := fun v => incByte_eq v s.p
  have dec := fun v => decByte_eq v s.p
  refine ⟨⟨⟨codes_of_encode rfl, ?incA⟩, fun a => ⟨codes_of_encode rfl, ?incBp⟩, fun a => ⟨codes_of_encode rfl, ?incAbs⟩,
      fun a => ⟨codes_of_encode rfl, ?incBpX⟩, fun a => ⟨codes_of_encode rfl, ?incAbsX⟩⟩,
    ⟨⟨codes_of_encode rfl, ?decA⟩, fun a => ⟨codes_of_encode rfl, ?decBp⟩, fun a => ⟨codes_of_encode rfl, ?decAbs⟩,
      fun a => ⟨codes_of_encode rfl, ?decBpX⟩, fun a => ⟨codes_of_encode rfl, ?decAbsX⟩⟩⟩
  case incA => exact exec_eq_of_modify_acc inc rfl
  case incBp | incAbs | incBpX | incAbsX => exact onPlace_of_modify inc rfl
  case decA => exact exec_eq_of_modify_acc dec rfl
  case decBp | decAbs | decBpX | decAbsX => exact onPlace_of_modify dec rfl

/-- Settles O45: each instruction is one byte, and one of two functions on one of three registers. -/
theorem indexIncDecResult : Obligations.IndexIncDecResult := by
  intro s
  refine ⟨?inx, ?iny, ?inz, ?dex, ?dey, ?dez⟩
  case inx => exact codes_and_exec_of_modifyReg State.setX rfl (incByte_eq s.x s.p) rfl
  case iny => exact codes_and_exec_of_modifyReg State.setY rfl (incByte_eq s.y s.p) rfl
  case inz => exact codes_and_exec_of_modifyReg State.setZ rfl (incByte_eq s.z s.p) rfl
  case dex => exact codes_and_exec_of_modifyReg State.setX rfl (decByte_eq s.x s.p) rfl
  case dey => exact codes_and_exec_of_modifyReg State.setY rfl (decByte_eq s.y s.p) rfl
  case dez => exact codes_and_exec_of_modifyReg State.setZ rfl (decByte_eq s.z s.p) rfl

/-- Settles O46: both are word read-modify-writes of two different bytes of page B. -/
theorem wordIncDecResult : Obligations.WordIncDecResult := by
  intro s
  refine ⟨fun a => ⟨codes_of_encode rfl, ?inw⟩, fun a => ⟨codes_of_encode rfl, ?dew⟩⟩ <;>
    rw [← basePage_eq, ← basePage_succ_eq]
  case inw => exact exec_eq_of_modifyWord (fun w => incWord_eq w s.p) rfl (basePage_ne_succ a s)
  case dew => exact exec_eq_of_modifyWord (fun w => decWord_eq w s.p) rfl (basePage_ne_succ a s)

end Sys2Proof.Machine
end

section
/-! Load and store (45_load.md R185 to R192): what an instruction of each of the two shapes does, whatever its register
and operand form; then form by form. -/

namespace Sys2Proof.Machine

open Sys2Proof.Safety

section
variable {s : State} {i : Instr} {len : Word}

/-- A load replaces its register (by `set`) and writes N and Z; otherwise it only moves PC (R185 to R188). -/
theorem exec_eq_of_load {v : Byte} {o : Source} (set : Byte → State → State)
    (hexec : exec i s = advance len (load set o s)) (hv : readSource o s = .ok v) :
    exec i s = .next (((set v s).setP { s.p with n := v.getLsbD 7, z := decide (v = 0#8) }).setPc ((set v s).pc + len)) := by
  rw [hexec, advance_load hv, setNZ_eq]; rfl

/-- A store writes one byte at EA and moves PC, and nothing else (R189 to R192). -/
theorem onAddress_of_store {v : Byte} {md : Mode} (hexec : exec i s = advance len (store v md s)) :
    OnAddress md s fun ea =>
      ∃ m, Stored s [(ea, v)] m ∧ exec i s = .next { s with mem := m, pc := s.pc + len } := by
  intro ea hea haccessible
  rw [hexec]
  exact advance_store hea haccessible len

end

/-! ### The statements of 45_load.md -/

/-- Settles O27: form by form, the encoding and the load of one of four registers. -/
theorem loadsSetRegisterAndNZ : Obligations.LoadsSetRegisterAndNZ := by
  intro s
  refine ⟨fun a => ⟨codes_of_encode rfl, ?ldaIndX⟩, fun a => ⟨codes_of_encode rfl, ?ldaBp⟩,
    fun d => ⟨codes_of_encode rfl, ?ldaImm⟩, fun a => ⟨codes_of_encode rfl, ?ldaAbs⟩,
    fun a => ⟨codes_of_encode rfl, ?ldaIndY⟩, fun a => ⟨codes_of_encode rfl, ?ldaIndZ⟩,
    fun a => ⟨codes_of_encode rfl, ?ldaBpX⟩, fun a => ⟨codes_of_encode rfl, ?ldaAbsY⟩,
    fun a => ⟨codes_of_encode rfl, ?ldaAbsX⟩, fun d => ⟨codes_of_encode rfl, ?ldaSpIndY⟩,
    fun d => ⟨codes_of_encode rfl, ?ldxImm⟩, fun a => ⟨codes_of_encode rfl, ?ldxBp⟩, fun a => ⟨codes_of_encode rfl, ?ldxAbs⟩,
    fun a => ⟨codes_of_encode rfl, ?ldxBpY⟩, fun a => ⟨codes_of_encode rfl, ?ldxAbsY⟩,
    fun d => ⟨codes_of_encode rfl, ?ldyImm⟩, fun a => ⟨codes_of_encode rfl, ?ldyBp⟩, fun a => ⟨codes_of_encode rfl, ?ldyAbs⟩,
    fun a => ⟨codes_of_encode rfl, ?ldyBpX⟩, fun a => ⟨codes_of_encode rfl, ?ldyAbsX⟩,
    fun d => ⟨codes_of_encode rfl, ?ldzImm⟩, fun a => ⟨codes_of_encode rfl, ?ldzAbs⟩, fun a => ⟨codes_of_encode rfl, ?ldzAbsX⟩⟩
  case ldaImm => exact exec_eq_of_load (o := .imm d) State.setA rfl rfl
  case ldaIndX | ldaBp | ldaAbs | ldaIndY | ldaIndZ | ldaBpX | ldaAbsY | ldaAbsX | ldaSpIndY =>
    exact onOperand_of_readSource (exec_eq_of_load State.setA rfl)
  case ldxImm => exact exec_eq_of_load (o := .imm d) State.setX rfl rfl
  case ldxBp | ldxAbs | ldxBpY | ldxAbsY => exact onOperand_of_readSource (exec_eq_of_load State.setX rfl)
  case ldyImm => exact exec_eq_of_load (o := .imm d) State.setY rfl rfl
  case ldyBp | ldyAbs | ldyBpX | ldyAbsX => exact onOperand_of_readSource (exec_eq_of_load State.setY rfl)
  case ldzImm => exact exec_eq_of_load (o := .imm d) State.setZ rfl rfl
  case ldzAbs | ldzAbsX => exact onOperand_of_readSource (exec_eq_of_load State.setZ rfl)

/-- Settles O28: form by form, the encoding and the store of one of four registers. -/
theorem storesWriteOneByte : Obligations.StoresWriteOneByte := by
  intro s
  refine ⟨fun a => ⟨codes_of_encode rfl, ?staIndX⟩, fun d => ⟨codes_of_encode rfl, ?staSpIndY⟩,
    fun a => ⟨codes_of_encode rfl, ?staBp⟩, fun a => ⟨codes_of_encode rfl, ?staAbs⟩,
    fun a => ⟨codes_of_encode rfl, ?staIndY⟩, fun a => ⟨codes_of_encode rfl, ?staIndZ⟩,
    fun a => ⟨codes_of_encode rfl, ?staBpX⟩, fun a => ⟨codes_of_encode rfl, ?staAbsY⟩,
    fun a => ⟨codes_of_encode rfl, ?staAbsX⟩,
    fun a => ⟨codes_of_encode rfl, ?stxBp⟩, fun a => ⟨codes_of_encode rfl, ?stxAbs⟩,
    fun a => ⟨codes_of_encode rfl, ?stxBpY⟩, fun a => ⟨codes_of_encode rfl, ?stxAbsY⟩,
    fun a => ⟨codes_of_encode rfl, ?styBp⟩, fun a => ⟨codes_of_encode rfl, ?styAbsX⟩,
    fun a => ⟨codes_of_encode rfl, ?styAbs⟩, fun a => ⟨codes_of_encode rfl, ?styBpX⟩,
    fun a => ⟨codes_of_encode rfl, ?stzBp⟩, fun a => ⟨codes_of_encode rfl, ?stzBpX⟩,
    fun a => ⟨codes_of_encode rfl, ?stzAbs⟩, fun a => ⟨codes_of_encode rfl, ?stzAbsX⟩⟩
  case staIndX | staSpIndY | staBp | staAbs | staIndY | staIndZ | staBpX | staAbsY | staAbsX =>
    exact onAddress_of_store (v := s.a) rfl
  case stxBp | stxAbs | stxBpY | stxAbsY => exact onAddress_of_store (v := s.x) rfl
  case styBp | styAbsX | styAbs | styBpX => exact onAddress_of_store (v := s.y) rfl
  case stzBp | stzBpX | stzAbs | stzAbsX => exact onAddress_of_store (v := s.z) rfl

end Sys2Proof.Machine
end

section
/-! Push and pull (46_stack.md R200 to R210): what one push, PHW's two pushes and one pull answer where their bytes can be
accessed, and what the instructions make of it. -/

namespace Sys2Proof.Machine

open Sys2Proof.Safety

/-! ### The stack operations where they are not refused -/

section
variable {s : State}

theorem push_of_accessible (hsp : Accessible s s.sp) (v : Byte) :
    ∃ m, Stored s [(s.sp, v)] m ∧ push v s = .ok { s with mem := m, sp := spDown s.p.e s.sp } := by
  refine ⟨storedMem s s.sp v, stored_one s s.sp v, push_eq_ok.2 ⟨hsp, ?_⟩⟩
  rw [stackDec_eq_spDown]; rfl

/-- The byte of PHW's operand that is pushed first, the one that stands at S (R205). -/
def phwFirst (s : State) (w : Word) : Byte := if s.cfg.phwOrder = .highFirst then hiByte w else loByte w

/-- The byte of PHW's operand that is pushed second (R205). -/
def phwSecond (s : State) (w : Word) : Byte := if s.cfg.phwOrder = .highFirst then loByte w else hiByte w

/-- The two bytes are stored at different addresses, at the end of the stack page too (R16). -/
theorem pushOperandWord_of_accessible (hsp : Accessible s s.sp) (hsp1 : Accessible s (spDown s.p.e s.sp)) (w : Word) :
    ∃ m, Stored s [(s.sp, phwFirst s w), (spDown s.p.e s.sp, phwSecond s w)] m ∧
      pushOperandWord w s = .ok { s with mem := m, sp := spDown s.p.e (spDown s.p.e s.sp) } := by
  refine ⟨_, stored_two s _ _ (spDown_ne s.p.e s.sp).symm, pushOperandWord_eq_ok.2 ?_⟩
  rw [stackDec_eq_spDown, stackDec_eq_spDown]
  exact ⟨hsp, hsp1, rfl⟩

theorem pull_of_accessible (hsp : Accessible s (spUp s.p.e s.sp 1)) (k : Nat) :
    pull k s = .ok (peek k (spUp s.p.e s.sp 1) s, s.setSp (spUp s.p.e s.sp 1)) := by
  rw [pull_eq_ok, stackInc_eq_spUp]
  exact ⟨hsp, rfl, rfl⟩

end

/-! ### The shapes of instruction -/

section
variable {s : State} {i : Instr} {op : Byte}

/-- An implied instruction that does nothing but push `v`: its one byte and its whole next state. -/
theorem codes_and_exec_of_push {v : Byte} (hsp : Accessible s s.sp) (hencode : encode i = [op])
    (hexec : exec i s = advance 1#16 (push v s)) :
    Codes [op] i ∧ ∃ m, Stored s [(s.sp, v)] m ∧
      exec i s = .next { s with mem := m, sp := spDown s.p.e s.sp, pc := s.pc + 1#16 } := by
  obtain ⟨m, hm, hpush⟩ := push_of_accessible hsp v
  refine ⟨codes_of_encode hencode, m, hm, ?_⟩
  rw [hexec, hpush]; rfl

/-- An instruction of three bytes that pushes the word `w`: its whole next state (R205). -/
theorem exec_of_pushOperandWord {w : Word} (hsp : Accessible s s.sp) (hsp1 : Accessible s (spDown s.p.e s.sp))
    (hexec : exec i s = advance 3#16 (pushOperandWord w s)) :
    ∃ m, Stored s [(s.sp, phwFirst s w), (spDown s.p.e s.sp, phwSecond s w)] m ∧
      exec i s = .next { s with mem := m, sp := spDown s.p.e (spDown s.p.e s.sp), pc := s.pc + 3#16 } := by
  obtain ⟨m, hm, hpush⟩ := pushOperandWord_of_accessible hsp hsp1 w
  refine ⟨m, hm, ?_⟩
  rw [hexec, hpush]; rfl

/-- An implied instruction that pulls into a register (by `set`): its one byte and its whole next state. -/
theorem codes_and_exec_of_pullReg (set : Byte → State → State) (hsp : Accessible s (spUp s.p.e s.sp 1))
    (hencode : encode i = [op]) (hexec : exec i s = advance 1#16 (pullReg set s)) :
    let v := peek 0 (spUp s.p.e s.sp 1) s
    let u := set v (s.setSp (spUp s.p.e s.sp 1))
    Codes [op] i ∧
      exec i s = .next ((u.setP { s.p with n := v.getLsbD 7, z := decide (v = 0#8) }).setPc (u.pc + 1#16)) := by
  refine ⟨codes_of_encode hencode, ?_⟩
  rw [hexec, pullReg, pull_of_accessible hsp, ← setNZ_eq]; rfl

end

/-! ### The statements of 46_stack.md -/

/-- Settles O49: one push each, of a register or of the status byte with bit 4 set. -/
theorem pushesStoreAtStackPointer : Obligations.PushesStoreAtStackPointer := by
  intro s hsp
  refine ⟨?pha, ?phx, ?phy, ?phz, ?php⟩
  case pha | phx | phy | phz => exact codes_and_exec_of_push hsp rfl rfl
  case php =>
    rw [← packP_eq_statusByte]
    exact codes_and_exec_of_push hsp rfl rfl

/-- Settles O50: both forms push one word; the one with an address reads it first, before memory changes. -/
theorem phwPushesTwoBytes : Obligations.PhwPushesTwoBytes := by
  intro s hsp hsp1
  refine ⟨fun d => ⟨codes_of_encode rfl, ?imm⟩, fun a => ⟨codes_of_encode rfl, fun hlo hhi => ?abs⟩⟩
  case imm => exact exec_of_pushOperandWord hsp hsp1 rfl
  case abs =>
    have hread : exec (.phwAbs a) s = advance 3#16 (pushOperandWord (wordAt 2 a (a + 1#16) s) s) :=
      congrArg (fun r => advance 3#16 (r >>= fun w => pushOperandWord w s)) (read16_of_accessible hlo hhi 2)
    exact exec_of_pushOperandWord hsp hsp1 hread

/-- Settles O51: four pulls into a register, which set N and Z from the byte; PLP's pull is taken by `unpackP`, which
keeps E. -/
theorem pullsReadAboveStackPointer : Obligations.PullsReadAboveStackPointer := by
  intro s hsp
  refine ⟨?pla, ?plx, ?ply, ?plz, codes_of_encode rfl, ?plp⟩
  case pla => exact codes_and_exec_of_pullReg State.setA hsp rfl rfl
  case plx => exact codes_and_exec_of_pullReg State.setX hsp rfl rfl
  case ply => exact codes_and_exec_of_pullReg State.setY hsp rfl rfl
  case plz => exact codes_and_exec_of_pullReg State.setZ hsp rfl rfl
  case plp =>
    exact congrArg (fun r => advance 1#16 (r >>= fun (v, u) => .ok (u.setP (unpackP v u.p)))) (pull_of_accessible hsp 0)

end Sys2Proof.Machine
end

section
/-! The canonical form of the memory through writes (log entry 4): a byte is stored at an address of the address space,
and no other write reaches the memory. -/

namespace Sys2Proof.Machine

variable {s t : State}

theorem Write.mem_wf (h : Write s t) (hs : s.mem.wf = true) : t.mem.wf = true := by
  cases h with
  | mem addr v => exact storedMem_wf hs addr v
  | _ => exact hs

theorem Writes.mem_wf (h : Writes s t) (hs : s.mem.wf = true) : t.mem.wf = true := by
  induction h with
  | refl => exact hs
  | tail _ hw ih => exact hw.mem_wf ih

/-- Settles O11: every step is a series of writes, each of which keeps the form. -/
theorem stepKeepsMemoryCanonical : Obligations.StepKeepsMemoryCanonical := by
  intro s t hs h
  obtain ⟨u, hu, rfl⟩ := step_eq_next.1 h
  rw [nextBoundary_mem]
  rcases act_writes hu with hw | hw
  · exact hw.mem_wf hs
  · exact hw.mem_wf (s := { s with nmiPending := false }) hs

/-- Settles O12: the reset memory lists nothing. -/
theorem resetMemoryIsCanonical : Obligations.ResetMemoryIsCanonical := rfl

end Sys2Proof.Machine
end

section
/-! What one step is for each event that the acceptance rule can find (60_exceptions.md R263, R264): a reset, a trap
entry, or the instruction whose bytes stand at PC. -/

namespace Sys2Proof.Machine

open Sys2Proof.Safety

variable {s t : State}

/-! ### The acceptance rule (R263, R264) -/

theorem acceptedEvent_eq_reset (h : s.resetLine = true) : acceptedEvent s = .reset := by
  simp [acceptedEvent, h]

theorem acceptedEvent_eq_nmi (hreset : s.resetLine = false) (hnmi : s.nmiPending = true) : acceptedEvent s = .nmi := by
  simp [acceptedEvent, hreset, hnmi]

theorem acceptedEvent_eq_irq (hreset : s.resetLine = false) (hnmi : s.nmiPending = false) (hirq : s.irqLine = true)
    (hi : s.p.i = false) : acceptedEvent s = .irq := by
  simp [acceptedEvent, hreset, hnmi, hirq, hi]

theorem acceptedEvent_eq_instruction (hreset : s.resetLine = false) (hnmi : s.nmiPending = false)
    (hirq : s.irqLine = false ∨ s.p.i = true) : acceptedEvent s = .instruction := by
  rcases hirq with h | h <;> simp [acceptedEvent, hreset, hnmi, h]

/-! ### A step, event by event -/

theorem step_of_act (h : act s = .next t) : step s = .next (nextBoundary t) :=
  step_eq_next.2 ⟨t, h, rfl⟩

theorem act_of_reset (h : acceptedEvent s = .reset) : act s = outcome (resetSequence s) := by
  simp only [act, h]

theorem act_of_nmi (h : acceptedEvent s = .nmi) : act s = outcome (takeNmi s) := by
  simp only [act, h]

theorem act_of_irq (h : acceptedEvent s = .irq) : act s = outcome (takeIrq s) := by
  simp only [act, h]

theorem act_of_fetchInstr {i : Instr} (h : acceptedEvent s = .instruction) (hi : fetchInstr s = .ok i) :
    act s = exec i s := by
  simp only [act, h, hi]

/-- Settles O7: NMI entry is trap entry from the state with the latch cleared, which has the same stack and vector. -/
theorem stepTakesNmi : Obligations.StepTakesNmi := by
  intro s hreset hnmi hacc
  obtain ⟨t, henters, ht⟩ :=
    trapEntry_enters (s := { s with nmiPending := false }) (vec := s.cfg.vecNmi) hacc s.pc false
  have hact : act s = .next t := (act_of_nmi (acceptedEvent_eq_nmi hreset hnmi)).trans (congrArg outcome ht)
  exact ⟨t, henters, step_of_act hact⟩

/-- Settles O8: IRQ entry is trap entry from the state as it stands. -/
theorem stepTakesIrq : Obligations.StepTakesIrq := by
  intro s hreset hnmi hirq hi hacc
  obtain ⟨t, henters, ht⟩ := trapEntry_enters hacc s.pc false
  have hact : act s = .next t := (act_of_irq (acceptedEvent_eq_irq hreset hnmi hirq hi)).trans (congrArg outcome ht)
  exact ⟨t, henters, step_of_act hact⟩

/-- Settles O9: the free values are the ones the reset sequence draws. -/
theorem stepPerformsReset : Obligations.StepPerformsReset := by
  intro s hreset hlo hhi
  have hact := act_of_reset (acceptedEvent_eq_reset hreset)
  rw [resetSequence_eq_ok.2 ⟨hlo, hhi, rfl⟩, mkWord_eq_ofNat, ← wordAt_eq] at hact
  exact ⟨_, _, _, _, _, _, _, _, step_of_act hact⟩

/-! ### The fetch where all bytes can be fetched (R72) -/

/-- The bytes stand one after another from `addr`, wrapping at 0xFFFF, where they can be fetched (R19, R43). -/
def FetchableAt (s : State) (bs : List Byte) (addr : Word) : Prop :=
  ∀ (k : Nat) (h : k < bs.length),
    (kindAt s (addr + BitVec.ofNat 16 k) = .ram ∨ kindAt s (addr + BitVec.ofNat 16 k) = .rom) ∧
      s.mem.read (addr + BitVec.ofNat 16 k).toNat = bs[k]

section
variable {b : Byte} {bs : List Byte} {addr : Word}

theorem FetchableAt.fetchByte_head (h : FetchableAt s (b :: bs) addr) : fetchByte addr s = .ok b := by
  have hhead := h 0 (Nat.zero_lt_succ _)
  rw [BitVec.add_zero] at hhead
  exact (fetchByte_of_ram_or_rom hhead.1).trans (congrArg _ hhead.2)

theorem add_one_add_ofNat (addr : Word) (k : Nat) : addr + 1#16 + BitVec.ofNat 16 k = addr + BitVec.ofNat 16 (k + 1) := by
  rw [BitVec.add_assoc, BitVec.ofNat_add, BitVec.add_comm 1#16]

theorem FetchableAt.tail (h : FetchableAt s (b :: bs) addr) : FetchableAt s bs (addr + 1#16) := fun k hk =>
  add_one_add_ofNat addr k ▸ h (k + 1) (Nat.succ_lt_succ hk)

theorem fetchBytes_of_fetchableAt (h : FetchableAt s bs addr) : fetchBytes bs.length addr s = .ok bs := by
  induction bs generalizing addr with
  | nil => rfl
  | cons b bs ih => rw [List.length_cons, fetchBytes, h.fetchByte_head, ok_bind, ih h.tail, ok_bind, pure_eq_ok]

theorem fetchInstr_of_fetchInstrBytes {i : Instr} {rest : List Byte} (hbytes : fetchInstrBytes s = .ok bs)
    (hdecode : decode bs = .ok (i, rest)) : fetchInstr s = .ok i := by
  rw [fetchInstr, hbytes, ok_bind, hdecode]; rfl

/-- The bytes of one instruction at PC are fetched as that instruction. -/
theorem fetchInstr_of_fetchableAt {i : Instr} {rest : List Byte} (hwf : wellFormedBytes bs = true)
    (hdecode : decode bs = .ok (i, rest)) (h : FetchableAt s bs s.pc) : fetchInstr s = .ok i := by
  cases bs with
  | nil => simp [wellFormedBytes] at hwf
  | cons op ops =>
    have hlength : fetchLength (s.mem.read s.pc.toNat) = ops.length + 1 := by
      rw [← fetchByte_eq h.fetchByte_head]
      exact (beq_iff_eq.1 hwf).symm
    have hbytes : fetchInstrBytes s = .ok (op :: ops) :=
      (fetchInstrBytes_eq hlength).trans (fetchBytes_of_fetchableAt h)
    exact fetchInstr_of_fetchInstrBytes hbytes hdecode

end

/-- Settles O5: without an event the boundary executes what is fetched, and that is what stands at PC. -/
theorem stepRunsDecodedInstruction : Obligations.StepRunsDecodedInstruction := by
  intro s bs i hreset hnmi hirq hwf hdecode hbytes
  have hact : act s = exec i s := act_of_fetchInstr (acceptedEvent_eq_instruction hreset hnmi hirq)
    (fetchInstr_of_fetchableAt hwf hdecode hbytes)
  cases hexec : exec i s <;> simp only [step, hact, hexec]

/-! ### Trap entry and RTI (R266, R268) -/

/-- Three up undo three down. -/
theorem spUp_three_spDown_spDown_spDown (e : Bool) (sp : Word) : spUp e (spDown e (spDown e (spDown e sp))) 3 = sp := by
  rw [← spUp_spUp e _ 1 2, spUp_spDown, spUp_two_spDown_spDown]

/-- What a trap entry leaves for the return: the three stacked bytes, S below them, and E (R266). -/
theorem trapEntry_leaves {vec ret : Word} {brk : Bool} (h : trapEntry vec ret brk s = .ok t) :
    Stored s [(s.sp, hiByte ret), (spDown s.p.e s.sp, loByte ret),
        (spDown s.p.e (spDown s.p.e s.sp), statusByte s.p brk)] t.mem ∧
      t.sp = spDown s.p.e (spDown s.p.e (spDown s.p.e s.sp)) ∧ t.p.e = s.p.e ∧ t.cfg = s.cfg := by
  obtain ⟨-, -, -, -, -, rfl⟩ := trapEntry_eq_ok.1 h
  refine ⟨stored_trapMem s ret brk, ?_, rfl, rfl⟩
  simp only [← stackDec_eq_spDown]; rfl

/-- Settles O21: the entry leaves the flags and the address in the three stack bytes, RTI finds them there again. -/
theorem trapEntryThenRtiResumes : Obligations.TrapEntryThenRtiResumes := by
  intro s t h vec ret brk hentry sp1 sp2 hstack hsp he hcfg
  obtain ⟨hm, htsp, hte, htcfg⟩ := trapEntry_leaves hentry
  rw [htsp] at hsp
  rw [hte] at he
  rw [htcfg] at hcfg
  have hup1 : spUp h.p.e h.sp 1 = sp2 := by rw [he, hsp]; exact spUp_spDown _ _
  have hup2 : spUp h.p.e h.sp 2 = sp1 := by rw [he, hsp]; exact spUp_two_spDown_spDown _ _
  have hup3 : spUp h.p.e h.sp 3 = s.sp := by rw [he, hsp]; exact spUp_three_spDown_spDown_spDown _ _
  obtain ⟨hramHi, hkeptHi⟩ := hstack s.sp (by simp)
  obtain ⟨hramLo, hkeptLo⟩ := hstack sp1 (by simp)
  obtain ⟨hramStatus, hkeptStatus⟩ := hstack sp2 (by simp)
  have hhi : h.mem.read s.sp.toNat = hiByte ret := hkeptHi.trans (read_of_stored hm (by simp) hramHi)
  have hlo : h.mem.read sp1.toNat = loByte ret := hkeptLo.trans (read_of_stored hm (by simp [sp1]) hramLo)
  have hstatus : h.mem.read sp2.toNat = statusByte s.p brk :=
    hkeptStatus.trans (read_of_stored hm (by simp [sp1, sp2]) hramStatus)
  rw [← kindAt_congr (s := s) (t := h) hcfg] at hramHi hramLo hramStatus
  have hword : wordAt 1 sp1 s.sp h = ret := wordAt_of_ram hramLo hramHi hlo hhi 1
  have hflags : unpackP (peek 0 sp2 h) h.p = s.p := by
    rw [peek_of_ram hramStatus, hstatus, ← packP_eq_statusByte]
    exact unpackP_packP brk s.p h.p he
  have hrti := trapReturn_of_accessible (s := h) (by simp [hup1, hramStatus]) (by simp [hup2, hramLo])
    (by simp [hup3, hramHi])
  rw [hup1, hup2, hup3, hword, hflags] at hrti
  exact congrArg outcome hrti

end Sys2Proof.Machine
end

section
/-! Where every address is ram or rom (20_memory.md R43) no access is refused, so that every operation, every instruction
and every boundary answers (70_reset_and_hazards.md R300). -/

namespace Sys2Proof.Safety

open Sys2Proof.Machine

variable {s t : State}

theorem ExactMap.accessible (hs : ExactMap s) (a : Word) : Accessible s a := by
  rcases hs a with h | h <;> simp [h]

theorem ExactMap.firstDevice_eq_none (hs : ExactMap s) (l : List Word) : firstDevice s l = none :=
  List.find?_eq_none.2 fun a _ => by simp [hs.accessible a]

/-- The map is a parameter (R4). -/
theorem ExactMap.of_cfg_eq (hs : ExactMap s) (h : t.cfg = s.cfg) : ExactMap t :=
  fun a => kindAt_congr h a ▸ hs a

end Sys2Proof.Safety

namespace Sys2Proof.Machine

open Sys2Proof.Safety

variable {α : Type} {s t : State}

/-- What accesses some addresses and is refused at none of them answers. -/
theorem Accesses.answers_of_exactMap {l : List Word} {x : Res α} (h : Accesses s l x) (hs : ExactMap s) :
    ∃ v, x = .ok v :=
  h.answers (hs.firstDevice_eq_none l)

/-! ### The operand forms and the shapes of instruction -/

theorem effectiveAddress_answers (hs : ExactMap s) (md : Mode) : ∃ ea, effectiveAddress md s = .ok ea := by
  cases md with
  | bp | bpX | bpY | abs | absX | absY => exact ⟨_, rfl⟩
  | indX a => exact (effectiveAddress_indX_accesses a s).answers_of_exactMap hs
  | indY a => exact (effectiveAddress_indY_accesses a s).answers_of_exactMap hs
  | indZ a => exact (effectiveAddress_indZ_accesses a s).answers_of_exactMap hs
  | spIndY d => exact (effectiveAddress_spIndY_accesses d s).answers_of_exactMap hs

theorem readSource_answers (hs : ExactMap s) (o : Source) : ∃ v, readSource o s = .ok v := by
  cases o with
  | imm d => exact ⟨d, rfl⟩
  | mem md =>
    obtain ⟨ea, hea⟩ := effectiveAddress_answers hs md
    exact (readSource_accesses hea).answers_of_exactMap hs

theorem load_answers (hs : ExactMap s) (set : Byte → State → State) (o : Source) : ∃ t, load set o s = .ok t := by
  obtain ⟨v, hv⟩ := readSource_answers hs o
  exact ⟨_, load_eq_ok.2 ⟨v, hv, rfl⟩⟩

theorem store_answers (hs : ExactMap s) (v : Byte) (md : Mode) : ∃ t, store v md s = .ok t := by
  obtain ⟨ea, hea⟩ := effectiveAddress_answers hs md
  exact (store_accesses hea v).answers_of_exactMap hs

theorem accumulate_answers (hs : ExactMap s) (f : Byte → Byte → Flags → Byte × Flags) (o : Source) :
    ∃ t, accumulate f o s = .ok t := by
  obtain ⟨m, hm⟩ := readSource_answers hs o
  exact ⟨_, accumulate_eq_ok.2 ⟨m, hm, rfl⟩⟩

theorem testOperand_answers (hs : ExactMap s) (f : Byte → Byte → Flags → Flags) (reg : Byte) (o : Source) :
    ∃ t, testOperand f reg o s = .ok t := by
  obtain ⟨m, hm⟩ := readSource_answers hs o
  exact ⟨_, testOperand_eq_ok.2 ⟨m, hm, rfl⟩⟩

theorem modify_answers (hs : ExactMap s) (f : Byte → Flags → Byte × Flags) (o : Place) : ∃ t, modify f o s = .ok t := by
  cases o with
  | acc => exact ⟨_, modify_acc f⟩
  | mem md =>
    obtain ⟨ea, hea⟩ := effectiveAddress_answers hs md
    exact (modify_accesses hea f).answers_of_exactMap hs

theorem branchBit_answers (hs : ExactMap s) (n : Nat) (want : Bool) (a r : Byte) : ∃ t, branchBit n want a r s = .ok t :=
  ⟨_, branchBit_eq_ok.2 ⟨hs.accessible _, rfl⟩⟩

theorem jumpThrough_answers (hs : ExactMap s) (q : Word) : ∃ t, jumpThrough q s = .ok t :=
  (jumpThrough_accesses q s).answers_of_exactMap hs

/-- A call: the pushes answer, and leave the map to what follows them. -/
theorem pushReturn_bind_answers (hs : ExactMap s) {k : State → Res State}
    (hk : ∀ {t}, ExactMap t → ∃ u, k t = .ok u) : ∃ u, (pushReturn s >>= k) = .ok u := by
  obtain ⟨t, ht⟩ := (pushWord_accesses (s.pc + 2#16) s).answers_of_exactMap hs
  obtain ⟨u, hu⟩ := hk (hs.of_cfg_eq (pushWord_moves ht).1)
  exact ⟨u, bind_eq_ok.2 ⟨t, ht, hu⟩⟩

theorem returnAdjust_answers (hs : ExactMap s) (d : Byte) : ∃ t, returnAdjust d s = .ok t :=
  ⟨_, returnAdjust_eq_ok.2 ⟨hs.accessible _, hs.accessible _, rfl⟩⟩

/-! ### How an instruction ends -/

/-- An instruction, a trap entry or a reset completes: it is neither refused nor ends in a fault. -/
def Completes (r : Result) : Prop := ∃ t, r = .next t

theorem advance_completes {r : Res State} (len : Word) (h : ∃ t, r = .ok t) : Completes (advance len r) := by
  obtain ⟨t, rfl⟩ := h
  exact ⟨_, advance_ok len t⟩

theorem outcome_completes {r : Res State} (h : ∃ t, r = .ok t) : Completes (outcome r) := by
  obtain ⟨t, rfl⟩ := h
  exact ⟨t, outcome_ok t⟩

/-- Whatever accesses memory and then moves PC past the instruction. -/
theorem Accesses.advance_completes {l : List Word} {r : Res State} (h : Accesses s l r) (hs : ExactMap s) (len : Word) :
    Completes (advance len r) :=
  Machine.advance_completes len (h.answers_of_exactMap hs)

theorem Accesses.outcome_completes {l : List Word} {r : Res State} (h : Accesses s l r) (hs : ExactMap s) :
    Completes (outcome r) :=
  Machine.outcome_completes (h.answers_of_exactMap hs)

/-! ### Every instruction, every boundary -/

/-- Every instruction completes: one case for each shape of instruction. -/
theorem exec_completes (hs : ExactMap s) (i : Instr) : Completes (exec i s) := by
  unfold exec
  cases i with
  | oraIndX | oraBp | oraImm | oraAbs | oraIndY | oraIndZ | oraBpX | oraAbsY | oraAbsX
  | andIndX | andBp | andImm | andAbs | andIndY | andIndZ | andBpX | andAbsY | andAbsX
  | eorIndX | eorBp | eorImm | eorAbs | eorIndY | eorIndZ | eorBpX | eorAbsY | eorAbsX
  | adcIndX | adcBp | adcImm | adcAbs | adcIndY | adcIndZ | adcBpX | adcAbsY | adcAbsX
  | sbcIndX | sbcBp | sbcImm | sbcAbs | sbcIndY | sbcIndZ | sbcBpX | sbcAbsY | sbcAbsX =>
    exact advance_completes _ (accumulate_answers hs _ _)
  | bitBp | bitAbs | bitBpX | bitAbsX | bitImm
  | cmpIndX | cmpBp | cmpImm | cmpAbs | cmpIndY | cmpIndZ | cmpBpX | cmpAbsY | cmpAbsX
  | cpxImm | cpxBp | cpxAbs | cpyImm | cpyBp | cpyAbs | cpzImm | cpzBp | cpzAbs =>
    exact advance_completes _ (testOperand_answers hs _ _ _)
  | tsbBp | tsbAbs | trbBp | trbAbs | neg
  | aslA | aslBp | aslAbs | aslBpX | aslAbsX | lsrA | lsrBp | lsrAbs | lsrBpX | lsrAbsX
  | rolA | rolBp | rolAbs | rolBpX | rolAbsX | rorA | rorBp | rorAbs | rorBpX | rorAbsX | asrA | asrBp | asrBpX
  | incA | incBp | incAbs | incBpX | incAbsX | decA | decBp | decAbs | decBpX | decAbsX
  | rmb0 | rmb1 | rmb2 | rmb3 | rmb4 | rmb5 | rmb6 | rmb7
  | smb0 | smb1 | smb2 | smb3 | smb4 | smb5 | smb6 | smb7 =>
    exact advance_completes _ (modify_answers hs _ _)
  | inw | dew | asw | row => exact (modifyWord_accesses _ _ _ s).advance_completes hs _
  | ldaIndX | ldaBp | ldaImm | ldaAbs | ldaIndY | ldaIndZ | ldaBpX | ldaAbsY | ldaAbsX | ldaSpIndY
  | ldxImm | ldxBp | ldxAbs | ldxBpY | ldxAbsY | ldyImm | ldyBp | ldyAbs | ldyBpX | ldyAbsX
  | ldzImm | ldzAbs | ldzAbsX => exact advance_completes _ (load_answers hs _ _)
  | staIndX | staSpIndY | staBp | staAbs | staIndY | staIndZ | staBpX | staAbsY | staAbsX
  | stxBp | stxAbs | stxBpY | stxAbsY | styBp | styAbsX | styAbs | styBpX | stzBp | stzBpX | stzAbs | stzAbsX =>
    exact advance_completes _ (store_answers hs _ _)
  | txa | tya | tza | tba | tax | tsx | tay | tsy | taz | tab | txs | tys | inx | dex | iny | dey | inz | dez
  | clc | sec | cld | sed | cli | sei | clv | cle | see | nop | aug => exact advance_completes _ ⟨_, rfl⟩
  | pha | php | phx | phy | phz => exact (push_accesses _ s).advance_completes hs _
  | phwImmWord => exact (pushOperandWord_accesses _ s).advance_completes hs _
  | phwAbs a =>
    exact ((read16_accesses 2 a s).bind fun w _ => pushOperandWord_accesses w s).advance_completes hs _
  | pla | plx | ply | plz => exact (pullReg_accesses _ s).advance_completes hs _
  | plp => exact ((pull_accesses 0 s).bind_ok fun _ _ => ⟨_, rfl⟩).advance_completes hs _
  | bplR8 | bmiR8 | bvcR8 | bvsR8 | bccR8 | bcsR8 | bneR8 | beqR8 | braR8
  | bplR16 | bmiR16 | bvcR16 | bvsR16 | bccR16 | bcsR16 | bneR16 | beqR16 | braR16 | jmpAbs => exact ⟨_, rfl⟩
  | bbr0 | bbr1 | bbr2 | bbr3 | bbr4 | bbr5 | bbr6 | bbr7 | bbs0 | bbs1 | bbs2 | bbs3 | bbs4 | bbs5 | bbs6 | bbs7 =>
    exact outcome_completes (branchBit_answers hs _ _ _ _)
  | jmpAbsInd | jmpAbsXInd => exact outcome_completes (jumpThrough_answers hs _)
  | jsrAbs | bsr => exact outcome_completes (pushReturn_bind_answers hs fun _ => ⟨_, rfl⟩)
  | jsrAbsInd | jsrAbsXInd => exact outcome_completes (pushReturn_bind_answers hs fun ht => jumpThrough_answers ht _)
  | rts => exact (returnSub_accesses s).outcome_completes hs
  | rtn => exact outcome_completes (returnAdjust_answers hs _)
  | rti => exact (trapReturn_accesses s).outcome_completes hs
  | brk => exact (trapEntry_accesses _ _ _ s).outcome_completes hs

theorem fetchBytes_answers (hs : ExactMap s) (n : Nat) (addr : Word) :
    ∃ bs, bs.length = n ∧ fetchBytes n addr s = .ok bs := by
  induction n generalizing addr with
  | zero => exact ⟨[], rfl, rfl⟩
  | succ n ih =>
    obtain ⟨bs, hlength, hbs⟩ := ih (addr + 1#16)
    refine ⟨s.mem.read addr.toNat :: bs, congrArg (· + 1) hlength, ?_⟩
    rw [fetchBytes, fetchByte_of_ram_or_rom (hs addr), ok_bind, hbs]; rfl

theorem instrLength_pos (op : Byte) : 0 < instrLength op := by
  rw [instrLength_eq]
  cases formatOf op <;> exact Nat.zero_lt_succ _

/-- As many bytes as the opcode at PC asks for are fetched, and that many are an instruction (R71, R100). -/
theorem fetchInstr_answers (hs : ExactMap s) : ∃ i, fetchInstr s = .ok i := by
  generalize hop : s.mem.read s.pc.toNat = op
  obtain ⟨ops, hlength, hops⟩ := fetchBytes_answers hs (fetchLength op - 1) (s.pc + 1#16)
  have hbytes : fetchInstrBytes s = .ok (op :: ops) := by
    rw [fetchInstrBytes, fetchByte_of_ram_or_rom (hs s.pc), hop, ok_bind, hops]; rfl
  have hwf : wellFormedBytes (op :: ops) = true := by
    have hpos := instrLength_pos op
    rw [wellFormedBytes, beq_iff_eq, hlength, fetchLength]; omega
  obtain ⟨i, hi⟩ := bytesOfTableLengthDecode _ hwf
  exact ⟨i, fetchInstr_of_fetchInstrBytes hbytes hi⟩

theorem act_completes (hs : ExactMap s) : Completes (act s) := by
  cases he : acceptedEvent s with
  | reset => rw [act_of_reset he]; exact (resetSequence_accesses s).outcome_completes hs
  | nmi =>
    rw [act_of_nmi he]
    exact (trapEntry_accesses s.cfg.vecNmi s.pc false { s with nmiPending := false }).outcome_completes
      (hs.of_cfg_eq rfl)
  | irq => rw [act_of_irq he]; exact (trapEntry_accesses s.cfg.vecIrq s.pc false s).outcome_completes hs
  | instruction =>
    obtain ⟨i, hi⟩ := fetchInstr_answers hs
    rw [act_of_fetchInstr he hi]
    exact exec_completes hs i

/-- Settles O15: every boundary completes on such a map, and no step writes the map. -/
theorem stepProceedsOnExactMap : Obligations.StepProceedsOnExactMap := by
  intro s hs
  obtain ⟨t, ht⟩ := act_completes hs
  have hstep := step_of_act ht
  exact ⟨_, hstep, hs.of_cfg_eq (step_cfg_eq hstep)⟩

end Sys2Proof.Machine
end

section
/-! Runs (70_reset_and_hazards.md R300): what the limit of a run that has ended says, and how many boundaries a run for a
number of instructions can take. -/

namespace Sys2Proof.Machine

open Sys2Proof.Safety

variable {s t u : State} {limit : RunLimit} {k n : Nat}

/-! ### A run that has ended -/

theorem runUntil_of_not_atEnd (h : atEnd limit s = false) (hrun : runUntil limit (k + 1) s = .ended u) :
    ∃ t, step s = .next t ∧ runUntil (limit.after (acceptedEvent s)) k t = .ended u := by
  cases hstep : step s with
  | next t => exact ⟨t, rfl, runUntil_of_step h hstep k ▸ hrun⟩
  | fault f => exact nomatch f
  | refused r => simp [runUntil, h, hstep] at hrun

/-- A number of instructions left after a boundary was one more before it, where an instruction executed (R300). -/
theorem reaches_of_step (hend : atEnd limit s = false) (hstep : step s = .next t)
    (hn : (limit.after (acceptedEvent s)).instructions = some n) (h : Reaches n t u) :
    ∃ m, limit.instructions = some m ∧ Reaches m s u := by
  cases he : acceptedEvent s with
  | reset | nmi | irq =>
    rw [he] at hn
    exact ⟨n, hn, .event (by simp [he]) hstep h⟩
  | instruction =>
    rw [he, RunLimit.after_instruction_instructions, Option.map_eq_some_iff] at hn
    obtain ⟨m, hm, rfl⟩ := hn
    have hpos : m ≠ 0 := fun hzero => by simp [atEnd, hm, hzero] at hend
    obtain ⟨j, rfl⟩ := Nat.exists_eq_succ_of_ne_zero hpos
    exact ⟨j + 1, hm, .instruction he hstep h⟩

/-- An event leaves the number of instructions (R300). -/
theorem RunLimit.after_of_event {e : Event} (h : e ≠ .instruction) (limit : RunLimit) : limit.after e = limit := by
  cases e with
  | reset | nmi | irq => rfl
  | instruction => exact absurd rfl h

theorem endPc_or_reaches_of_atEnd (h : atEnd limit s = true) :
    limit.endPc = some s.pc ∨ ∃ n, limit.instructions = some n ∧ Reaches n s s :=
  (atEnd_eq_true.1 h).imp_right fun hzero => ⟨0, hzero, .here s⟩

theorem endPc_or_reaches_of_ended (h : runUntil limit k s = .ended u) :
    limit.endPc = some u.pc ∨ ∃ n, limit.instructions = some n ∧ Reaches n s u := by
  induction k generalizing limit s with
  | zero =>
    cases hend : atEnd limit s with
    | true =>
      obtain rfl : s = u := by simpa [runUntil, hend] using h
      exact endPc_or_reaches_of_atEnd hend
    | false => simp [runUntil, hend] at h
  | succ k ih =>
    cases hend : atEnd limit s with
    | true =>
      obtain rfl : s = u := by simpa [runUntil_of_atEnd hend] using h
      exact endPc_or_reaches_of_atEnd hend
    | false =>
      obtain ⟨t, hstep, hrun⟩ := runUntil_of_not_atEnd hend h
      refine (ih hrun).imp (limit.after_endPc _ ▸ ·) fun ⟨n, hn, hreaches⟩ => ?_
      exact reaches_of_step hend hstep hn hreaches

/-! ### The inputs along a run -/

theorem step_of_inputs_nil (hin : s.inputs = []) (h : step s = .next t) :
    t.inputs = [] ∧ t.resetLine = s.resetLine ∧ t.nmiPending = latchAfter s := by
  obtain ⟨v, hv, rfl⟩ := step_eq_next.1 h
  obtain ⟨hinputs, -, hreset, hnmi, -⟩ := act_sameInputs hv
  rw [nextBoundary_of_nil (hinputs.trans hin)]
  exact ⟨hinputs.trans hin, hreset, hnmi⟩

theorem step_of_inputs_cons {j : InputSample} {js : List InputSample} (hin : s.inputs = j :: js) (h : step s = .next t) :
    t.inputs = js ∧ t.resetLine = j.reset := by
  obtain ⟨v, hv, rfl⟩ := step_eq_next.1 h
  rw [nextBoundary_of_cons ((act_sameInputs hv).inputs.trans hin)]
  exact ⟨rfl, rfl⟩

theorem resetReleased_of_nil (hin : s.inputs = []) : resetReleased s = !s.resetLine := by
  simp [resetReleased, hin]

theorem resetReleased_of_cons {j : InputSample} {js : List InputSample} (hin : s.inputs = j :: js) :
    resetReleased s = !((js.getLast?.map InputSample.reset).getD j.reset) := by
  rw [resetReleased, hin, List.getLast?_cons]
  cases js.getLast? <;> rfl

/-- That RESET is released in the end stays true: the last sample stays the last until it becomes the level. -/
theorem step_resetReleased (h : step s = .next t) : resetReleased t = resetReleased s := by
  cases hin : s.inputs with
  | nil =>
    obtain ⟨htin, hreset, -⟩ := step_of_inputs_nil hin h
    rw [resetReleased_of_nil htin, resetReleased_of_nil hin, hreset]
  | cons j js =>
    obtain ⟨htin, hreset⟩ := step_of_inputs_cons hin h
    rw [resetReleased_of_cons hin, resetReleased, htin, hreset]
    cases js.getLast? <;> rfl

/-! ### An event is followed by an instruction, if no sample comes between -/

theorem act_sets_i_of_event (he : acceptedEvent s ≠ .instruction) (h : act s = .next t) : t.p.i = true := by
  rcases act_cases h with ⟨-, h⟩ | ⟨-, h⟩ | ⟨-, h⟩ | ⟨hinstruction, -⟩
  · obtain ⟨-, -, rfl⟩ := resetSequence_eq_ok.1 h
    rfl
  · obtain ⟨-, -, -, -, -, rfl⟩ := trapEntry_eq_ok.1 h
    rfl
  · obtain ⟨-, -, -, -, -, rfl⟩ := trapEntry_eq_ok.1 h
    rfl
  · exact absurd hinstruction he

/-- An IRQ is accepted only where no NMI is pending (R264). -/
theorem nmiPending_of_irq (he : acceptedEvent s = .irq) : s.nmiPending = false := by
  cases hreset : s.resetLine with
  | true => exact absurd (he.symm.trans (acceptedEvent_eq_reset hreset)) (by decide)
  | false =>
    cases hnmi : s.nmiPending with
    | true => exact absurd (he.symm.trans (acceptedEvent_eq_nmi hreset hnmi)) (by decide)
    | false => rfl

/-- A pending NMI does not outlast an event: it is cleared, or comes before an IRQ (R262, R264). -/
theorem latchAfter_of_event (he : acceptedEvent s ≠ .instruction) : latchAfter s = false := by
  unfold latchAfter
  cases hev : acceptedEvent s with
  | reset | nmi => rfl
  | irq => exact nmiPending_of_irq hev
  | instruction => exact absurd hev he

theorem acceptedEvent_after_event (hin : s.inputs = []) (hreset : s.resetLine = false)
    (he : acceptedEvent s ≠ .instruction) (h : step s = .next t) : acceptedEvent t = .instruction := by
  obtain ⟨-, htreset, htnmi⟩ := step_of_inputs_nil hin h
  obtain ⟨v, hv, rfl⟩ := step_eq_next.1 h
  have hi : (nextBoundary v).p.i = true := (congrArg Flags.i (nextBoundary_p v)).trans (act_sets_i_of_event he hv)
  exact acceptedEvent_eq_instruction (htreset.trans hreset) (htnmi.trans (latchAfter_of_event he)) (.inr hi)

/-! ### How long a run for a number of instructions can take -/

/-- How many boundaries `n` instructions can take: two for each sample and each instruction, and one for an event
accepted now. -/
def boundariesFor (n : Nat) (s : State) : Nat :=
  2 * s.inputs.length + 2 * n + if acceptedEvent s = .instruction then 0 else 1

theorem boundariesFor_le (n : Nat) (s : State) : boundariesFor n s ≤ 2 * s.inputs.length + 2 * n + 1 := by
  unfold boundariesFor
  split <;> omega

theorem le_boundariesFor (n : Nat) (s : State) : 2 * s.inputs.length + 2 * n ≤ boundariesFor n s :=
  Nat.le_add_right _ _

theorem step_inputs_length (h : step s = .next t) : t.inputs.length = s.inputs.length - 1 := by
  cases hin : s.inputs with
  | nil => rw [(step_of_inputs_nil hin h).1]; rfl
  | cons j js => rw [(step_of_inputs_cons hin h).1]; rfl

theorem boundariesFor_after_instruction (h : step s = .next t) : boundariesFor n t < boundariesFor (n + 1) s := by
  have hlength := step_inputs_length h
  have hlt := boundariesFor_le n t
  have hge := le_boundariesFor (n + 1) s
  omega

/-- An event takes a sample; where none is listed, an instruction comes next. -/
theorem boundariesFor_after_event (hreleased : resetReleased s = true) (he : acceptedEvent s ≠ .instruction)
    (h : step s = .next t) : boundariesFor n t < boundariesFor n s := by
  have hs : boundariesFor n s = 2 * s.inputs.length + 2 * n + 1 := by rw [boundariesFor, if_neg he]
  cases hin : s.inputs with
  | nil =>
    have hreset : s.resetLine = false := by simpa [resetReleased_of_nil hin] using hreleased
    rw [hs, boundariesFor, if_pos (acceptedEvent_after_event hin hreset he h), (step_of_inputs_nil hin h).1, hin]
    exact Nat.lt_succ_self _
  | cons j js =>
    have hle := boundariesFor_le n t
    rw [(step_of_inputs_cons hin h).1] at hle
    rw [hs, hin, List.length_cons]
    omega

/-- What a run gives from the next boundary on, it gives from this one with one boundary more. -/
theorem runUntil_ended_of_step {b : Nat} (hend : atEnd limit s = false) (hstep : step s = .next t)
    (hrun : ∀ k, b ≤ k → runUntil (limit.after (acceptedEvent s)) k t = .ended u) (k : Nat) (hk : b + 1 ≤ k) :
    runUntil limit k s = .ended u := by
  obtain ⟨j, rfl⟩ := Nat.exists_eq_succ_of_ne_zero (Nat.ne_of_gt (Nat.zero_lt_of_lt hk))
  exact (runUntil_of_step hend hstep j).trans (hrun j (Nat.le_of_succ_le_succ hk))

theorem run_ends {b : Nat} (hs : ExactMap s) (hreleased : resetReleased s = true) (hb : boundariesFor n s ≤ b) :
    ∃ u, Reaches n s u ∧ ∀ k, b ≤ k → runUntil { endPc := none, instructions := some n } k s = .ended u := by
  induction b generalizing s n with
  | zero =>
    obtain rfl : n = 0 := by have := le_boundariesFor n s; omega
    exact ⟨s, .here s, fun k _ => runUntil_of_atEnd rfl k⟩
  | succ b ih =>
    cases n with
    | zero => exact ⟨s, .here s, fun k _ => runUntil_of_atEnd rfl k⟩
    | succ n =>
      obtain ⟨t, hstep, ht⟩ := stepProceedsOnExactMap s hs
      have htreleased := (step_resetReleased hstep).trans hreleased
      have hend : atEnd { endPc := none, instructions := some (n + 1) } s = false := by simp [atEnd]
      by_cases he : acceptedEvent s = .instruction
      · have hless := boundariesFor_after_instruction (n := n) hstep
        obtain ⟨u, hreaches, hrun⟩ := ih ht htreleased (n := n) (by omega)
        refine ⟨u, .instruction he hstep hreaches, runUntil_ended_of_step hend hstep ?_⟩
        rwa [he]
      · have hless := boundariesFor_after_event (n := n + 1) hreleased he hstep
        obtain ⟨u, hreaches, hrun⟩ := ih ht htreleased (n := n + 1) (by omega)
        refine ⟨u, .event he hstep hreaches, runUntil_ended_of_step hend hstep ?_⟩
        rwa [RunLimit.after_of_event he]

/-! ### The statement of 70_reset_and_hazards.md -/

/-- The run from power-on is the run from what the reset sequence answers (R290). -/
theorem runFromPowerOn_of_resetSequence (h : resetSequence s = .ok t) (limit : RunLimit) (k : Nat) :
    runFromPowerOn limit k s = runUntil limit k { t with draws := t.draws + 1 } := by
  rw [runFromPowerOn, powerOn, h]; rfl

/-- Settles O60: the end by the limit that is left at each boundary, termination by a bound on the boundaries that each
step lowers. -/
theorem runEndsAtEndPcOrAfterInstructions : Obligations.RunEndsAtEndPcOrAfterInstructions := by
  refine ⟨fun limit k s hpc => ?atEndPc, fun limit k s u => endPc_or_reaches_of_ended, fun s n hs hreleased => ?ends,
    fun limit k s hlo hhi => ?powerOn⟩
  case atEndPc => exact runUntil_of_atEnd (atEnd_eq_true.2 (.inl hpc)) k
  case ends =>
    have hle := boundariesFor_le n s
    exact run_ends hs hreleased (by omega)
  case powerOn =>
    obtain ⟨t, ht⟩ := (resetSequence_accesses s).answers (by simp [hlo, hhi])
    have hdraws : t.draws = s.draws := (resetSequence_writes ht).sameInputs.draws
    exact ⟨t, ht, hdraws ▸ runFromPowerOn_of_resetSequence ht limit k⟩

end Sys2Proof.Machine
end

section
/-! Register transfers (47_trans.md R215 to R226): the halves of S in numbers, and what a transfer does whatever its
registers. -/

namespace Sys2Proof.Machine

open Sys2Proof.Safety

/-! ### The halves of S in numbers (R15) -/

theorem loByte_eq_ofNat (w : Word) : loByte w = BitVec.ofNat 8 w.toNat := by
  apply BitVec.eq_of_toNat_eq
  rw [loByte_toNat, BitVec.toNat_ofNat]

theorem hiByte_eq_ofNat (w : Word) : hiByte w = BitVec.ofNat 8 (w.toNat / 256) := by
  apply BitVec.eq_of_toNat_eq
  have hlt := w.isLt
  rw [hiByte_toNat, BitVec.toNat_ofNat]; omega

theorem mkWord_hiByte_eq_ofNat (w : Word) (lo : Byte) :
    mkWord (hiByte w) lo = BitVec.ofNat 16 (w.toNat / 256 * 256 + lo.toNat) := by
  rw [mkWord_eq_ofNat, hiByte_toNat]

theorem mkWord_loByte_eq_ofNat (hi : Byte) (w : Word) :
    mkWord hi (loByte w) = BitVec.ofNat 16 (hi.toNat * 256 + w.toNat % 256) := by
  rw [mkWord_eq_ofNat, loByte_toNat]

/-! ### The statement of 47_trans.md -/

section
variable {s : State} {i : Instr} {op : Byte}

/-- An implied instruction that does nothing but copy `v` into A, X, Y or Z (by `set`): its one byte and its whole next
state. -/
theorem codes_and_exec_of_transfer (v : Byte) (set : Byte → State → State) (hencode : encode i = [op])
    (hexec : exec i s = advance 1#16 (transfer v set s)) :
    Codes [op] i ∧ exec i s =
      .next (((set v s).setP { s.p with n := v.getLsbD 7, z := decide (v = 0#8) }).setPc ((set v s).pc + 1#16)) := by
  refine ⟨codes_of_encode hencode, ?_⟩
  rw [hexec, transfer, setNZ_eq]; rfl

/-- An implied instruction that only writes S: its one byte and its whole next state. -/
theorem codes_and_exec_of_setSp {v : Word} (hencode : encode i = [op])
    (hexec : exec i s = advance 1#16 (.ok (s.setSp v))) :
    Codes [op] i ∧ exec i s = .next { s with sp := v, pc := s.pc + 1#16 } :=
  ⟨codes_of_encode hencode, hexec⟩

end

/-- Settles O48: eight transfers into A, X, Y or Z from a register or a half of S, two into a half of S, one into B. -/
theorem transfersCopyOneByte : Obligations.TransfersCopyOneByte := by
  intro s nz
  rw [← loByte_eq_ofNat, ← hiByte_eq_ofNat, ← mkWord_hiByte_eq_ofNat, ← mkWord_loByte_eq_ofNat]
  refine ⟨?tax, ?tay, ?txa, ?tya, ?tsx, ?taz, ?tza, ?tba, ?tsy, ?txs, ?tys, ?tab⟩
  case tax => exact codes_and_exec_of_transfer s.a State.setX rfl rfl
  case tay => exact codes_and_exec_of_transfer s.a State.setY rfl rfl
  case taz => exact codes_and_exec_of_transfer s.a State.setZ rfl rfl
  case txa => exact codes_and_exec_of_transfer s.x State.setA rfl rfl
  case tya => exact codes_and_exec_of_transfer s.y State.setA rfl rfl
  case tza => exact codes_and_exec_of_transfer s.z State.setA rfl rfl
  case tba => exact codes_and_exec_of_transfer s.b State.setA rfl rfl
  case tsx => exact codes_and_exec_of_transfer (loByte s.sp) State.setX rfl rfl
  case tsy => exact codes_and_exec_of_transfer (hiByte s.sp) State.setY rfl rfl
  case txs | tys => exact codes_and_exec_of_setSp rfl rfl
  case tab => exact ⟨codes_of_encode rfl, rfl⟩

end Sys2Proof.Machine
end

section
/-! Logic and bit instructions (48_logic.md R230 to R237): each function bit by bit, then what the forms answer. -/

namespace Sys2Proof.Machine

open Sys2Proof.Safety

/-! ### Operations bit by bit -/

/-- The function computes its result bit by bit by `g`, and N and Z from the result (R230 to R232). -/
def Bitwise (f : Byte → Byte → Flags → Byte × Flags) (g : Bool → Bool → Bool) : Prop :=
  ∀ a m p, (∀ j, (f a m p).1.getLsbD j = g (a.getLsbD j) (m.getLsbD j)) ∧ (f a m p).2 = setNZ (f a m p).1 p

theorem andByte_bitwise : Bitwise andByte and := fun _ _ _ => ⟨fun _ => BitVec.getLsbD_and, rfl⟩

theorem oraByte_bitwise : Bitwise oraByte or := fun _ _ _ => ⟨fun _ => BitVec.getLsbD_or, rfl⟩

theorem eorByte_bitwise : Bitwise eorByte xor := fun _ _ _ => ⟨fun _ => BitVec.getLsbD_xor, rfl⟩

/-- TRB's mask clears the bits that are set in A (R235). -/
theorem getLsbD_and_not (v a : Byte) {j : Nat} (hj : j < 8) : (v &&& ~~~a).getLsbD j = (v.getLsbD j && !a.getLsbD j) := by
  rw [BitVec.getLsbD_and, BitVec.getLsbD_not, decide_eq_true hj, Bool.true_and]

theorem getLsbD_one_shiftLeft (n : Nat) {j : Nat} (hj : j < 8) : (1#8 <<< n).getLsbD j = decide (j = n) := by
  rw [← BitVec.twoPow_eq, BitVec.getLsbD_twoPow]
  by_cases h : j = n
  · subst h; simp [hj]
  · simp [h, Ne.symm h]

/-- RMBn clears bit n and keeps the others (R236). -/
theorem resetBit_getLsbD (n : Nat) (v : Byte) (p : Flags) {j : Nat} (hj : j < 8) :
    (resetBit n v p).1.getLsbD j = if j = n then false else v.getLsbD j := by
  rw [resetBit, getLsbD_and_not v _ hj, getLsbD_one_shiftLeft n hj]
  by_cases h : j = n <;> simp [h]

/-- SMBn sets bit n and keeps the others (R237). -/
theorem setBit_getLsbD (n : Nat) (v : Byte) (p : Flags) {j : Nat} (hj : j < 8) :
    (setBit n v p).1.getLsbD j = if j = n then true else v.getLsbD j := by
  rw [setBit, BitVec.getLsbD_or, getLsbD_one_shiftLeft n hj]
  by_cases h : j = n <;> simp [h]

/-- RMBn writes no flag (R236). -/
theorem resetBit_noFlag {n : Nat} (v : Byte) (p : Flags) : resetBit n v p = ((resetBit n v p).1, p) := rfl

/-- SMBn writes no flag (R237). -/
theorem setBit_noFlag {n : Nat} (v : Byte) (p : Flags) : setBit n v p = ((setBit n v p).1, p) := rfl

/-! ### What the forms answer -/

section
variable {s : State} {i : Instr} {len : Word}

/-- A bitwise operation on A and an operand: each bit of the result, N and Z, and nothing else but PC. -/
theorem exec_of_bitwise {f : Byte → Byte → Flags → Byte × Flags} {g : Bool → Bool → Bool} {o : Source} {m : Byte}
    (hf : Bitwise f g) (hexec : exec i s = advance len (accumulate f o s)) (hm : readSource o s = .ok m) :
    ∃ r : Byte, (∀ j < 8, r.getLsbD j = g (s.a.getLsbD j) (m.getLsbD j)) ∧
      exec i s = .next { s with a := r, p := { s.p with n := r.getLsbD 7, z := decide (r = 0#8) }, pc := s.pc + len } := by
  obtain ⟨hbits, hflags⟩ := hf s.a m s.p
  rw [setNZ_eq] at hflags
  exact ⟨_, fun j _ => hbits j, (accumulates_of_exec hexec hm).exec_eq (Prod.ext rfl hflags)⟩

/-- A test of A against an operand writes P and PC alone (R233). -/
theorem exec_of_testOperand {f : Byte → Byte → Flags → Flags} {o : Source} {m : Byte}
    (hexec : exec i s = advance len (testOperand f s.a o s)) (hm : readSource o s = .ok m) :
    exec i s = .next { s with p := f s.a m s.p, pc := s.pc + len } :=
  hexec.trans (advance_testOperand hm len)

/-- A read-modify-write known bit by bit (R234 to R237): the byte at EA and the flags, and nothing else but PC. -/
theorem onPlace_of_modify_bits {f : Byte → Flags → Byte × Flags} {res : Byte → Byte} {fl : Byte → Flags} {md : Mode}
    (bits : Byte → Nat → Bool) (hf : ∀ v, f v s.p = (res v, fl v)) (hbits : ∀ v, ∀ j < 8, (res v).getLsbD j = bits v j)
    (hexec : exec i s = advance len (modify f (.mem md) s)) :
    OnPlace md s fun ea v => ∃ (r : Byte) (m : Memory), (∀ j < 8, r.getLsbD j = bits v j) ∧ Stored s [(ea, r)] m ∧
      exec i s = .next { s with mem := m, p := fl v, pc := s.pc + len } := by
  intro ea v hv
  obtain ⟨m, hstored, hnext⟩ := onPlace_of_modify hf hexec ea v hv
  exact ⟨res v, m, hbits v, hstored, hnext⟩

end

/-! ### The statements of 48_logic.md -/

/-- Settles O36: form by form, the encoding and one of three bitwise operations on A and the operand. -/
theorem logicResult : Obligations.LogicResult := by
  intro s run
  refine ⟨fun a => ⟨codes_of_encode rfl, ?andIndX⟩, fun a => ⟨codes_of_encode rfl, ?andBp⟩,
    fun d => ⟨codes_of_encode rfl, ?andImm⟩, fun a => ⟨codes_of_encode rfl, ?andAbs⟩,
    fun a => ⟨codes_of_encode rfl, ?andIndY⟩, fun a => ⟨codes_of_encode rfl, ?andIndZ⟩,
    fun a => ⟨codes_of_encode rfl, ?andBpX⟩, fun a => ⟨codes_of_encode rfl, ?andAbsY⟩,
    fun a => ⟨codes_of_encode rfl, ?andAbsX⟩,
    fun a => ⟨codes_of_encode rfl, ?oraIndX⟩, fun a => ⟨codes_of_encode rfl, ?oraBp⟩,
    fun d => ⟨codes_of_encode rfl, ?oraImm⟩, fun a => ⟨codes_of_encode rfl, ?oraAbs⟩,
    fun a => ⟨codes_of_encode rfl, ?oraIndY⟩, fun a => ⟨codes_of_encode rfl, ?oraIndZ⟩,
    fun a => ⟨codes_of_encode rfl, ?oraBpX⟩, fun a => ⟨codes_of_encode rfl, ?oraAbsY⟩,
    fun a => ⟨codes_of_encode rfl, ?oraAbsX⟩,
    fun a => ⟨codes_of_encode rfl, ?eorIndX⟩, fun a => ⟨codes_of_encode rfl, ?eorBp⟩,
    fun d => ⟨codes_of_encode rfl, ?eorImm⟩, fun a => ⟨codes_of_encode rfl, ?eorAbs⟩,
    fun a => ⟨codes_of_encode rfl, ?eorIndY⟩, fun a => ⟨codes_of_encode rfl, ?eorIndZ⟩,
    fun a => ⟨codes_of_encode rfl, ?eorBpX⟩, fun a => ⟨codes_of_encode rfl, ?eorAbsY⟩,
    fun a => ⟨codes_of_encode rfl, ?eorAbsX⟩⟩
  case andImm => exact exec_of_bitwise (o := .imm d) andByte_bitwise rfl rfl
  case andIndX | andBp | andAbs | andIndY | andIndZ | andBpX | andAbsY | andAbsX =>
    exact onOperand_of_readSource (exec_of_bitwise andByte_bitwise rfl)
  case oraImm => exact exec_of_bitwise (o := .imm d) oraByte_bitwise rfl rfl
  case oraIndX | oraBp | oraAbs | oraIndY | oraIndZ | oraBpX | oraAbsY | oraAbsX =>
    exact onOperand_of_readSource (exec_of_bitwise oraByte_bitwise rfl)
  case eorImm => exact exec_of_bitwise (o := .imm d) eorByte_bitwise rfl rfl
  case eorIndX | eorBp | eorAbs | eorIndY | eorIndZ | eorBpX | eorAbsY | eorAbsX =>
    exact onOperand_of_readSource (exec_of_bitwise eorByte_bitwise rfl)

/-- Settles O37: form by form, the encoding and one of the two tests of A. -/
theorem bitTestResult : Obligations.BitTestResult := by
  intro s zero runImm run
  refine ⟨fun a => ⟨codes_of_encode rfl, ?bp⟩, fun a => ⟨codes_of_encode rfl, ?abs⟩,
    fun a => ⟨codes_of_encode rfl, ?bpX⟩, fun a => ⟨codes_of_encode rfl, ?absX⟩, fun d => ⟨codes_of_encode rfl, ?imm⟩⟩
  case imm => exact exec_of_testOperand (f := bitImmFlags) (o := .imm d) rfl rfl
  case bp | abs | bpX | absX => exact onOperand_of_readSource (exec_of_testOperand (f := bitMemFlags) rfl)

/-- Settles O38: form by form, the encoding and one of the two masks on the byte at EA. -/
theorem tsbTrbResult : Obligations.TsbTrbResult := by
  intro s zero run
  have tsb (v : Byte) (j : Nat) (_ : j < 8) : (v ||| s.a).getLsbD j = (v.getLsbD j || s.a.getLsbD j) := BitVec.getLsbD_or
  have trb (v : Byte) (j : Nat) (hj : j < 8) := getLsbD_and_not v s.a hj
  refine ⟨fun a => ⟨codes_of_encode rfl, ?tsbBp⟩, fun a => ⟨codes_of_encode rfl, ?tsbAbs⟩,
    fun a => ⟨codes_of_encode rfl, ?trbBp⟩, fun a => ⟨codes_of_encode rfl, ?trbAbs⟩⟩
  case tsbBp | tsbAbs => exact onPlace_of_modify_bits (f := tsbByte s.a) _ (fun _ => rfl) tsb rfl
  case trbBp | trbAbs => exact onPlace_of_modify_bits (f := trbByte s.a) _ (fun _ => rfl) trb rfl

/-- Settles O39: each opcode is one byte and the write of its own bit. -/
theorem memoryBitResetAndSet : Obligations.MemoryBitResetAndSet := by
  intro s run
  refine ⟨fun a => ⟨codes_of_encode rfl, ?rmb0⟩, fun a => ⟨codes_of_encode rfl, ?rmb1⟩,
    fun a => ⟨codes_of_encode rfl, ?rmb2⟩, fun a => ⟨codes_of_encode rfl, ?rmb3⟩, fun a => ⟨codes_of_encode rfl, ?rmb4⟩,
    fun a => ⟨codes_of_encode rfl, ?rmb5⟩, fun a => ⟨codes_of_encode rfl, ?rmb6⟩, fun a => ⟨codes_of_encode rfl, ?rmb7⟩,
    fun a => ⟨codes_of_encode rfl, ?smb0⟩, fun a => ⟨codes_of_encode rfl, ?smb1⟩, fun a => ⟨codes_of_encode rfl, ?smb2⟩,
    fun a => ⟨codes_of_encode rfl, ?smb3⟩, fun a => ⟨codes_of_encode rfl, ?smb4⟩, fun a => ⟨codes_of_encode rfl, ?smb5⟩,
    fun a => ⟨codes_of_encode rfl, ?smb6⟩, fun a => ⟨codes_of_encode rfl, ?smb7⟩⟩
  case rmb0 | rmb1 | rmb2 | rmb3 | rmb4 | rmb5 | rmb6 | rmb7 => exact onPlace_of_modify_bits _ (resetBit_noFlag · s.p) (fun v _ => resetBit_getLsbD _ v s.p) rfl
  case smb0 | smb1 | smb2 | smb3 | smb4 | smb5 | smb6 | smb7 => exact onPlace_of_modify_bits _ (setBit_noFlag · s.p) (fun v _ => setBit_getLsbD _ v s.p) rfl

end Sys2Proof.Machine
end

section
/-! Branches (49_branch.md R240 to R251): the target as a sum of numbers, then what a branch of each shape does. -/

namespace Sys2Proof.Machine

open Sys2Proof.Safety

/-! ### The target in numbers -/

/-- A base plus the signed byte, modulo 65536 (R95, R98). -/
theorem add_sext16_eq_ofInt (pc : Word) (n : Nat) (r : Byte) :
    pc + BitVec.ofNat 16 n + sext16 r = BitVec.ofInt 16 ((pc.toNat : Int) + n + r.toInt) := by
  rw [BitVec.ofInt_add, BitVec.ofInt_add, BitVec.ofInt_natCast, BitVec.ofInt_natCast, BitVec.ofNat_toNat,
    BitVec.setWidth_eq]
  rfl

/-- A base plus the word, modulo 65536 (R97). -/
theorem add_ofNat_add_eq_ofNat (pc : Word) (n : Nat) (r : Word) :
    pc + BitVec.ofNat 16 n + r = BitVec.ofNat 16 (pc.toNat + n + r.toNat) := by
  rw [BitVec.ofNat_add, ← add_ofNat_eq_ofNat, BitVec.ofNat_toNat, BitVec.setWidth_eq]

/-! ### The branches of each shape -/

section
variable {s : State} {i : Instr}

/-- An r8 branch writes PC alone (R240). -/
theorem exec_of_branch8 {cond : Bool} {r : Byte} (hexec : exec i s = .next (branch8 cond r s)) :
    exec i s = .next { s with
      pc := if cond then BitVec.ofInt 16 ((s.pc.toNat : Int) + 2 + r.toInt) else BitVec.ofNat 16 (s.pc.toNat + 2) } := by
  rw [hexec, branch8, add_sext16_eq_ofInt, add_ofNat_eq_ofNat]; rfl

/-- An r16 branch writes PC alone (R240). -/
theorem exec_of_branch16 {cond : Bool} {r : Word} (hexec : exec i s = .next (branch16 cond r s)) :
    exec i s = .next { s with
      pc := if cond then BitVec.ofNat 16 (s.pc.toNat + 2 + r.toNat) else BitVec.ofNat 16 (s.pc.toNat + 3) } := by
  rw [hexec, branch16, add_ofNat_add_eq_ofNat, add_ofNat_eq_ofNat]; rfl

/-- A branch on a bit of a base-page byte writes PC alone (R250, R251). -/
theorem exec_of_branchBit {n : Nat} {want : Bool} {a r : Byte}
    (hexec : exec i s = outcome (branchBit n want a r s)) :
    let ea : Word := BitVec.ofNat 16 (s.b.toNat * 256 + a.toNat)
    Accessible s ea → exec i s = .next { s with
      pc := if (peek 2 ea s).getLsbD n = want then BitVec.ofInt 16 ((s.pc.toNat : Int) + 3 + r.toInt)
            else BitVec.ofNat 16 (s.pc.toNat + 3) } := by
  rw [← basePage_eq]
  intro ea hea
  rw [hexec, branchBit_eq_ok.2 ⟨hea, rfl⟩, add_sext16_eq_ofInt, add_ofNat_eq_ofNat]; rfl

end

/-! ### The statements of 49_branch.md -/

/-- Settles O58: each mnemonic with its condition, in both lengths. -/
theorem branchesGoToTarget : Obligations.BranchesGoToTarget := by
  intro s short long
  have r8 {cond : Bool} {i : Instr} {r : Byte} (h : exec i s = .next (branch8 cond r s)) : short cond i r :=
    exec_of_branch8 h
  have r16 {cond : Bool} {i : Instr} {r : Word} (h : exec i s = .next (branch16 cond r s)) : long cond i r :=
    exec_of_branch16 h
  refine ⟨fun r => ⟨codes_of_encode rfl, ?bplR8⟩, fun r => ⟨codes_of_encode rfl, ?bplR16⟩,
    fun r => ⟨codes_of_encode rfl, ?bmiR8⟩, fun r => ⟨codes_of_encode rfl, ?bmiR16⟩,
    fun r => ⟨codes_of_encode rfl, ?bvcR8⟩, fun r => ⟨codes_of_encode rfl, ?bvcR16⟩,
    fun r => ⟨codes_of_encode rfl, ?bvsR8⟩, fun r => ⟨codes_of_encode rfl, ?bvsR16⟩,
    fun r => ⟨codes_of_encode rfl, ?bccR8⟩, fun r => ⟨codes_of_encode rfl, ?bccR16⟩,
    fun r => ⟨codes_of_encode rfl, ?bcsR8⟩, fun r => ⟨codes_of_encode rfl, ?bcsR16⟩,
    fun r => ⟨codes_of_encode rfl, ?bneR8⟩, fun r => ⟨codes_of_encode rfl, ?bneR16⟩,
    fun r => ⟨codes_of_encode rfl, ?beqR8⟩, fun r => ⟨codes_of_encode rfl, ?beqR16⟩,
    fun r => ⟨codes_of_encode rfl, ?braR8⟩, fun r => ⟨codes_of_encode rfl, ?braR16⟩⟩
  case bplR8 | bmiR8 | bvcR8 | bvsR8 | bccR8 | bcsR8 | bneR8 | beqR8 | braR8 => exact r8 rfl
  case bplR16 | bmiR16 | bvcR16 | bvsR16 | bccR16 | bcsR16 | bneR16 | beqR16 | braR16 => exact r16 rfl

/-- Settles O59: each opcode with its bit and the value it branches on. -/
theorem bitBranchesTestBasePageByte : Obligations.BitBranchesTestBasePageByte := by
  intro s run
  refine ⟨fun a r => ⟨codes_of_encode rfl, ?bbr0⟩, fun a r => ⟨codes_of_encode rfl, ?bbr1⟩,
    fun a r => ⟨codes_of_encode rfl, ?bbr2⟩, fun a r => ⟨codes_of_encode rfl, ?bbr3⟩,
    fun a r => ⟨codes_of_encode rfl, ?bbr4⟩, fun a r => ⟨codes_of_encode rfl, ?bbr5⟩,
    fun a r => ⟨codes_of_encode rfl, ?bbr6⟩, fun a r => ⟨codes_of_encode rfl, ?bbr7⟩,
    fun a r => ⟨codes_of_encode rfl, ?bbs0⟩, fun a r => ⟨codes_of_encode rfl, ?bbs1⟩,
    fun a r => ⟨codes_of_encode rfl, ?bbs2⟩, fun a r => ⟨codes_of_encode rfl, ?bbs3⟩,
    fun a r => ⟨codes_of_encode rfl, ?bbs4⟩, fun a r => ⟨codes_of_encode rfl, ?bbs5⟩,
    fun a r => ⟨codes_of_encode rfl, ?bbs6⟩, fun a r => ⟨codes_of_encode rfl, ?bbs7⟩⟩
  case bbr0 | bbr1 | bbr2 | bbr3 | bbr4 | bbr5 | bbr6 | bbr7 | bbs0 | bbs1 | bbs2 | bbs3 | bbs4 | bbs5 | bbs6 | bbs7 =>
    exact exec_of_branchBit rfl

end Sys2Proof.Machine
end
